-- ==== Sys2Proof/Config.lean ====
section
/-! DEFINITION. The sizes and fixed limits of the part, and the one free value: result bytes whose layout the spec does not give. -/

namespace Sys2Proof.Config

/-- Visitor records (R1). -/
abbrev records : Nat := 384
/-- Bucket chains (R6). -/
abbrev buckets : Nat := 127
/-- Level table entries (R30). -/
abbrev levels : Nat := 61
/-- Error table entries (R31). -/
abbrev grades : Nat := 16
/-- Transaction slots (R91). -/
abbrev slots : Nat := 8
/-- Interest map places (R118). -/
abbrev places : Nat := 256
/-- Neighbour table slots (R133). -/
abbrev neighbourSlots : Nat := 12
/-- Channel ports (R161). -/
abbrev channels : Nat := 4
/-- Class queues (R90). -/
abbrev classes : Nat := 4
/-- Places of a channel notice queue (R171). -/
abbrev channelQueue : Nat := 32
/-- Places of the link notice queue (R172). -/
abbrev linkQueue : Nat := 64
/-- Neighbour entries of one record (R42). -/
abbrev neighbourEntries : Nat := 3
/-- Talkgroups of one record (R2). -/
abbrev talkgroups : Nat := 4
/-- The largest unit ID that names a radio (R2). -/
abbrev maxUnit : Nat := 16777214
/-- The largest site number (R133). -/
abbrev maxSite : Nat := 1023
/-- The largest talkgroup ID (R2). -/
abbrev maxTalkgroup : Nat := 65534
/-- The largest talkgroup count of a REGISTER or ASK IN frame (R188). -/
abbrev maxTalkgroupCount : Nat := 15
/-- The bytes that carry the results of a DONE confirmation of a kind whose layout the spec does not give (R189): a free value of
the kind code and the results (log entry 11). -/
opaque unlaidResults {α : Type} (kind : Nat) (results : α) : List (BitVec 8)

end Sys2Proof.Config
end

