-- ==== Sys2Proof/Word.lean ====
section
/-! DEFINITION. The byte of a frame (11 R187). The SR-24 has no wider machine word: every other number of the spec is a
count, an identity or a score, and is a natural number or an integer in this model. -/

namespace Sys2Proof

/-- One whole byte of a frame (R187). -/
abbrev Byte := BitVec 8

end Sys2Proof
end

