-- ==== Sys2Proof/Syntax.lean ====
section
/-! DEFINITION. The commands of the SR-24: one constructor of Instr for each row of spec/opcode_table.json, with the operands
its rule lists. The table gives no bits, so an operand is the number that its field carries on the wire (R187). Codes that the
engine itself checks (a class, a source, a link state) stay numbers here, since a code outside the enumeration is refused RANGE
and not unspeakable. -/

namespace Sys2Proof

/-- A station port (R161): 0 maintenance, 1 link, 2 to 5 the channel ports. `channel c` is channel port c + 1. -/
inductive Port where
  | maintenance
  | link
  | channel (c : Fin 4)
deriving DecidableEq, Repr

/-- The fields of REGISTER (R46). The talkgroup count is the length of the list. -/
structure RegisterFields where
  unit : Nat
  cls : Nat
  seq : Nat
  fresh : Bool
  attenuation : Nat
  grade : Nat
  talkgroups : List Nat
deriving DecidableEq, Repr

/-- The fields of MEASURE (R25). `source` is the code on the wire; with UPLINK `site` is carried and not read (R188). -/
structure MeasureFields where
  unit : Nat
  source : Nat
  site : Nat
  attenuation : Nat
  grade : Nat
deriving DecidableEq, Repr

/-- The fields of CLAIM IN (R60). -/
structure ClaimFields where
  unit : Nat
  site : Nat
  seq : Nat
  fresh : Bool
deriving DecidableEq, Repr

/-- The fields of ASK IN (R114). The talkgroup count is the length of the list. -/
structure AskFields where
  unit : Nat
  origin : Nat
  cls : Nat
  seq : Nat
  talkgroups : List Nat
deriving DecidableEq, Repr

/-- The fields of ANSWER (R96). `answer` is the code on the wire. -/
structure AnswerFields where
  slot : Nat
  generation : Nat
  unit : Nat
  site : Nat
  answer : Nat
deriving DecidableEq, Repr

/-- The three items of SET LIMITS (R182); `none` is the mark unchanged. `threshold` is the code on the wire. -/
structure LimitsFields where
  reserve : Option Nat
  allowance : Option Nat
  threshold : Option Nat
deriving DecidableEq, Repr

/-- The request kinds a station can send (R166, R188). -/
inductive Kind where
  | fetch
  | openPort
  | closePort
  | register
  | deregister
  | measure
  | callStart
  | callEnd
  | claimIn
  | askIn
  | answer
  | linkStatus
  | setProfileField
  | loadLevelTable
  | loadErrorTable
  | setNeighbour
  | setLimits
  | setSite
  | lock
  | unlock
  | setIncidentLocks
  | declareIncident
  | standDown
  | siteReset
  | unmute
  | forceClose
  | readRecord
  | siteStatus
deriving DecidableEq, Repr

/-- A request as its frame carries it, without the port it came on (R188). -/
inductive Request where
  | fetch (count : Nat)
  | openPort
  | closePort
  | register (f : RegisterFields)
  | deregister (unit : Nat)
  | measure (f : MeasureFields)
  | callStart (unit : Nat)
  | callEnd (unit : Nat)
  | claimIn (f : ClaimFields)
  | askIn (f : AskFields)
  | answer (f : AnswerFields)
  | linkStatus (site state : Nat)
  | setProfileField (profile code value : Nat)
  | loadLevelTable (start : Nat) (entries : List (Nat × Nat))
  | loadErrorTable (start : Nat) (entries : List Nat)
  | setNeighbour (slot site : Nat) (bias : Int)
  | setLimits (f : LimitsFields)
  | setSite (site : Nat)
  | lock (groups : Byte)
  | unlock (groups : Byte)
  | setIncidentLocks (groups : Byte)
  | declareIncident
  | standDown
  | siteReset (force : Bool)
  | unmute (port : Nat)
  | forceClose (port : Nat)
  | readRecord (unit : Nat)
  | siteStatus
deriving DecidableEq, Repr

/-- A command: one constructor per row of spec/opcode_table.json. A request names the port it arrives on. -/
inductive Instr where
  | fetch (p : Port) (count : Nat)
  | openPort (p : Port)
  | closePort (p : Port)
  | register (p : Port) (f : RegisterFields)
  | deregister (p : Port) (unit : Nat)
  | measure (p : Port) (f : MeasureFields)
  | callStart (p : Port) (unit : Nat)
  | callEnd (p : Port) (unit : Nat)
  | claimIn (p : Port) (f : ClaimFields)
  | askIn (p : Port) (f : AskFields)
  | answer (p : Port) (f : AnswerFields)
  | linkStatus (p : Port) (site : Nat) (state : Nat)
  | setProfileField (p : Port) (profile : Nat) (code : Nat) (value : Nat)
  | loadLevelTable (p : Port) (start : Nat) (entries : List (Nat × Nat))
  | loadErrorTable (p : Port) (start : Nat) (entries : List Nat)
  | setNeighbour (p : Port) (slot : Nat) (site : Nat) (bias : Int)
  | setLimits (p : Port) (f : LimitsFields)
  | setSite (p : Port) (site : Nat)
  | lock (p : Port) (groups : Byte)
  | unlock (p : Port) (groups : Byte)
  | setIncidentLocks (p : Port) (groups : Byte)
  | declareIncident (p : Port)
  | standDown (p : Port)
  | siteReset (p : Port) (force : Bool)
  | unmute (p : Port) (port : Nat)
  | forceClose (p : Port) (port : Nat)
  | readRecord (p : Port) (unit : Nat)
  | siteStatus (p : Port)
  /-- A raw frame: the bits clocked in while the frame line was raised, first bit first (R187), and whether its first byte
  arrived while the previous confirmation was still being clocked out (R160). -/
  | format (p : Port) (bits : List Bool) (early : Bool)
  | resetPinLow
  | powerOn
  | sweepTimerExpiry
  | visit
  | answerTimerExpiry (slot : Fin 8)
  | holdTimerExpiry (slot : Fin 8)
  | claimTimerExpiry (slot : Fin 8)
  /-- The expiry of the leave timer of the entry that holds this talkgroup (R125). -/
  | leaveTimerExpiry (talkgroup : Nat)
  | linkFlushTimeout
  | confirmationClockedOut (p : Port)
deriving DecidableEq, Repr

end Sys2Proof
end

