-- ==== Sys2Proof/WellFormed.lean ====
section
/-! DEFINITION. When a command is well formed: each operand fits the field that carries it (R187, R188). A code that fits its
byte and lies outside its enumeration is well formed; the engine refuses it RANGE. -/

namespace Sys2Proof

/-- A one-byte field (R187). -/
abbrev fitsByte (n : Nat) : Bool := decide (n < 256)
/-- A two-byte field (R187). -/
abbrev fitsTwoBytes (n : Nat) : Bool := decide (n < 65536)
/-- A unit ID field, three bytes (R187). -/
abbrev fitsUnit (n : Nat) : Bool := decide (n < 16777216)
/-- A bias byte, two's complement (R187). -/
abbrev fitsBias (b : Int) : Bool := decide (-128 ≤ b ∧ b ≤ 127)
/-- A SET LIMITS item of two bytes, whose last value is the mark unchanged (R188). -/
abbrev fitsLimit : Option Nat → Bool
  | none => true
  | some n => decide (n < 65535)
/-- The SET LIMITS threshold byte, whose last value is the mark unchanged (R188). -/
abbrev fitsThreshold : Option Nat → Bool
  | none => true
  | some n => decide (n < 255)

/-- The talkgroup list of a REGISTER or ASK IN frame: at most 15 IDs of two bytes (R188). -/
def talkgroupsFit (l : List Nat) : Bool :=
  decide (l.length ≤ Config.maxTalkgroupCount) && l.all fitsTwoBytes

def RegisterFields.wf (f : RegisterFields) : Bool :=
  fitsUnit f.unit && fitsByte f.cls && fitsByte f.seq && fitsByte f.attenuation && fitsByte f.grade && talkgroupsFit f.talkgroups

def MeasureFields.wf (f : MeasureFields) : Bool :=
  fitsUnit f.unit && fitsByte f.source && fitsTwoBytes f.site && fitsByte f.attenuation && fitsByte f.grade

def ClaimFields.wf (f : ClaimFields) : Bool :=
  fitsUnit f.unit && fitsTwoBytes f.site && fitsByte f.seq

def AskFields.wf (f : AskFields) : Bool :=
  fitsUnit f.unit && fitsTwoBytes f.origin && fitsByte f.cls && fitsByte f.seq && talkgroupsFit f.talkgroups

def AnswerFields.wf (f : AnswerFields) : Bool :=
  fitsByte f.slot && fitsByte f.generation && fitsUnit f.unit && fitsTwoBytes f.site && fitsByte f.answer

def LimitsFields.wf (f : LimitsFields) : Bool :=
  fitsLimit f.reserve && fitsLimit f.allowance && fitsThreshold f.threshold

/-- A level table load: the entry count is one byte, the body length 2 + 2n is one byte, and each value is one byte (R188). -/
def levelEntriesFit (l : List (Nat × Nat)) : Bool :=
  decide (2 + 2 * l.length < 256) && l.all (fun e => fitsByte e.1 && fitsByte e.2)

/-- An error table load: the body length 2 + n is one byte, and each value is one byte (R188). -/
def errorEntriesFit (l : List Nat) : Bool :=
  decide (2 + l.length < 256) && l.all fitsByte

/-- Whether a request fits its frame (R188). -/
def Request.wf : Request → Bool
  | .fetch count => fitsByte count
  | .openPort => true
  | .closePort => true
  | .register f => f.wf
  | .deregister unit => fitsUnit unit
  | .measure f => f.wf
  | .callStart unit => fitsUnit unit
  | .callEnd unit => fitsUnit unit
  | .claimIn f => f.wf
  | .askIn f => f.wf
  | .answer f => f.wf
  | .linkStatus site state => fitsTwoBytes site && fitsByte state
  | .setProfileField profile code value => fitsByte profile && fitsByte code && fitsTwoBytes value
  | .loadLevelTable start entries => fitsByte start && levelEntriesFit entries
  | .loadErrorTable start entries => fitsByte start && errorEntriesFit entries
  | .setNeighbour slot site bias => fitsByte slot && fitsTwoBytes site && fitsBias bias
  | .setLimits f => f.wf
  | .setSite site => fitsTwoBytes site
  | .lock _ => true
  | .unlock _ => true
  | .setIncidentLocks _ => true
  | .declareIncident => true
  | .standDown => true
  | .siteReset _ => true
  | .unmute port => fitsByte port
  | .forceClose port => fitsByte port
  | .readRecord unit => fitsUnit unit
  | .siteStatus => true

/-- The request that a command carries; none for a raw frame, a pin event and an engine event. -/
def Instr.request? : Instr → Option (Port × Request)
  | .fetch p count => some (p, .fetch count)
  | .openPort p => some (p, .openPort)
  | .closePort p => some (p, .closePort)
  | .register p f => some (p, .register f)
  | .deregister p unit => some (p, .deregister unit)
  | .measure p f => some (p, .measure f)
  | .callStart p unit => some (p, .callStart unit)
  | .callEnd p unit => some (p, .callEnd unit)
  | .claimIn p f => some (p, .claimIn f)
  | .askIn p f => some (p, .askIn f)
  | .answer p f => some (p, .answer f)
  | .linkStatus p site state => some (p, .linkStatus site state)
  | .setProfileField p profile code value => some (p, .setProfileField profile code value)
  | .loadLevelTable p start entries => some (p, .loadLevelTable start entries)
  | .loadErrorTable p start entries => some (p, .loadErrorTable start entries)
  | .setNeighbour p slot site bias => some (p, .setNeighbour slot site bias)
  | .setLimits p f => some (p, .setLimits f)
  | .setSite p site => some (p, .setSite site)
  | .lock p groups => some (p, .lock groups)
  | .unlock p groups => some (p, .unlock groups)
  | .setIncidentLocks p groups => some (p, .setIncidentLocks groups)
  | .declareIncident p => some (p, .declareIncident)
  | .standDown p => some (p, .standDown)
  | .siteReset p force => some (p, .siteReset force)
  | .unmute p port => some (p, .unmute port)
  | .forceClose p port => some (p, .forceClose port)
  | .readRecord p unit => some (p, .readRecord unit)
  | .siteStatus p => some (p, .siteStatus)
  | .format _ _ _ => none
  | .resetPinLow => none
  | .powerOn => none
  | .sweepTimerExpiry => none
  | .visit => none
  | .answerTimerExpiry _ => none
  | .holdTimerExpiry _ => none
  | .claimTimerExpiry _ => none
  | .leaveTimerExpiry _ => none
  | .linkFlushTimeout => none
  | .confirmationClockedOut _ => none

/-- Whether a command fits the fields that carry it. A raw frame may hold any bits, and the operands of an event fit by their
types. -/
def Instr.wf (i : Instr) : Bool :=
  match i.request? with
  | some (_, r) => r.wf
  | none => true

/-- A command whose operands fit their fields. -/
abbrev WellFormed (i : Instr) : Prop := i.wf = true

end Sys2Proof
end

