-- ==== Sys2Proof/Decode.lean ====
section
/-! DEFINITION. Request frames as bytes (11 R187, R188), decoded and encoded, and the host's decodeTableWord. The opcode table
gives no row any bits, so decodeTableWord answers none on every word (log entry 1). The bodies that R188 does not lay out take
their fields in the order their rule names them (log entry 10). -/

namespace Sys2Proof

/-- No row of spec/opcode_table.json gives bits (log entry 1). -/
def decodeTableWord (_nbits _w : Nat) : Option Instr := none

/-- The kind code of a request (R188). -/
def Kind.code : Kind → Nat
  | .fetch => 1
  | .openPort => 2
  | .closePort => 3
  | .register => 16
  | .deregister => 17
  | .measure => 18
  | .callStart => 19
  | .callEnd => 20
  | .claimIn => 32
  | .askIn => 33
  | .answer => 34
  | .linkStatus => 35
  | .setProfileField => 48
  | .loadLevelTable => 49
  | .loadErrorTable => 50
  | .setNeighbour => 51
  | .setLimits => 52
  | .setSite => 53
  | .lock => 54
  | .unlock => 55
  | .setIncidentLocks => 56
  | .declareIncident => 64
  | .standDown => 65
  | .siteReset => 66
  | .unmute => 67
  | .forceClose => 68
  | .readRecord => 80
  | .siteStatus => 81

/-- Every request kind (R188). -/
def Kind.all : List Kind :=
  [.fetch, .openPort, .closePort, .register, .deregister, .measure, .callStart, .callEnd, .claimIn, .askIn, .answer, .linkStatus]
    ++ [.setProfileField, .loadLevelTable, .loadErrorTable, .setNeighbour, .setLimits, .setSite, .lock, .unlock, .setIncidentLocks]
    ++ [.declareIncident, .standDown, .siteReset, .unmute, .forceClose, .readRecord, .siteStatus]

/-- The kind a code names, none for an unknown code (R188). -/
def Kind.ofCode (c : Nat) : Option Kind := Kind.all.find? (fun k => k.code == c)

/-- The kind of a request. -/
def Request.kind : Request → Kind
  | .fetch _ => .fetch
  | .openPort => .openPort
  | .closePort => .closePort
  | .register _ => .register
  | .deregister _ => .deregister
  | .measure _ => .measure
  | .callStart _ => .callStart
  | .callEnd _ => .callEnd
  | .claimIn _ => .claimIn
  | .askIn _ => .askIn
  | .answer _ => .answer
  | .linkStatus _ _ => .linkStatus
  | .setProfileField _ _ _ => .setProfileField
  | .loadLevelTable _ _ => .loadLevelTable
  | .loadErrorTable _ _ => .loadErrorTable
  | .setNeighbour _ _ _ => .setNeighbour
  | .setLimits _ => .setLimits
  | .setSite _ => .setSite
  | .lock _ => .lock
  | .unlock _ => .unlock
  | .setIncidentLocks _ => .setIncidentLocks
  | .declareIncident => .declareIncident
  | .standDown => .standDown
  | .siteReset _ => .siteReset
  | .unmute _ => .unmute
  | .forceClose _ => .forceClose
  | .readRecord _ => .readRecord
  | .siteStatus => .siteStatus

/-- The command that a request arriving on a port is. -/
def Request.command (p : Port) : Request → Instr
  | .fetch count => .fetch p count
  | .openPort => .openPort p
  | .closePort => .closePort p
  | .register f => .register p f
  | .deregister unit => .deregister p unit
  | .measure f => .measure p f
  | .callStart unit => .callStart p unit
  | .callEnd unit => .callEnd p unit
  | .claimIn f => .claimIn p f
  | .askIn f => .askIn p f
  | .answer f => .answer p f
  | .linkStatus site state => .linkStatus p site state
  | .setProfileField profile code value => .setProfileField p profile code value
  | .loadLevelTable start entries => .loadLevelTable p start entries
  | .loadErrorTable start entries => .loadErrorTable p start entries
  | .setNeighbour slot site bias => .setNeighbour p slot site bias
  | .setLimits f => .setLimits p f
  | .setSite site => .setSite p site
  | .lock groups => .lock p groups
  | .unlock groups => .unlock p groups
  | .setIncidentLocks groups => .setIncidentLocks p groups
  | .declareIncident => .declareIncident p
  | .standDown => .standDown p
  | .siteReset force => .siteReset p force
  | .unmute port => .unmute p port
  | .forceClose port => .forceClose p port
  | .readRecord unit => .readRecord p unit
  | .siteStatus => .siteStatus p

/-! ## Bits and bytes (R187) -/

/-- Eight bits, the most significant first, as a byte (R187). -/
def byteOfBits (b7 b6 b5 b4 b3 b2 b1 b0 : Bool) : Byte :=
  BitVec.ofNat 8 (128 * b7.toNat + 64 * b6.toNat + 32 * b5.toNat + 16 * b4.toNat + 8 * b3.toNat + 4 * b2.toNat + 2 * b1.toNat + b0.toNat)

/-- The whole bytes of a frame; bits left over after the last whole byte are discarded (R187). -/
def bytesOfBits : List Bool → List Byte
  | b7 :: b6 :: b5 :: b4 :: b3 :: b2 :: b1 :: b0 :: rest => byteOfBits b7 b6 b5 b4 b3 b2 b1 b0 :: bytesOfBits rest
  | _ => []

/-- A byte as its eight bits, the most significant first (R187). -/
def bitsOfByte (b : Byte) : List Bool :=
  [b.getLsbD 7, b.getLsbD 6, b.getLsbD 5, b.getLsbD 4, b.getLsbD 3, b.getLsbD 2, b.getLsbD 1, b.getLsbD 0]

/-- Bytes as the bits that carry them (R187). -/
def bitsOfBytes (l : List Byte) : List Bool := l.flatMap bitsOfByte

/-- A one-byte field (R187). -/
def byte1 (n : Nat) : List Byte := [BitVec.ofNat 8 n]
/-- A two-byte field, the most significant byte first (R187). -/
def byte2 (n : Nat) : List Byte := [BitVec.ofNat 8 (n / 256), BitVec.ofNat 8 n]
/-- A three-byte field, the most significant byte first (R187). -/
def byte3 (n : Nat) : List Byte := [BitVec.ofNat 8 (n / 65536), BitVec.ofNat 8 (n / 256), BitVec.ofNat 8 n]

/-- The value of a two-byte field (R187). -/
def two (a b : Byte) : Nat := 256 * a.toNat + b.toNat
/-- The value of a three-byte field (R187). -/
def three (a b c : Byte) : Nat := 65536 * a.toNat + 256 * b.toNat + c.toNat
/-- A list of two-byte fields (R187). -/
def twos : List Byte → List Nat
  | a :: b :: rest => two a b :: twos rest
  | _ => []
/-- A list of pairs of bytes: level table entries, B then C (R188). -/
def pairs : List Byte → List (Nat × Nat)
  | a :: b :: rest => (a.toNat, b.toNat) :: pairs rest
  | _ => []

/-- The value a two-byte SET LIMITS item carries; 65,535 is the mark unchanged (R188). -/
def limitOfWire (n : Nat) : Option Nat := if n = 65535 then none else some n
/-- The value the SET LIMITS threshold byte carries; 255 is the mark unchanged (R188). -/
def thresholdOfWire (n : Nat) : Option Nat := if n = 255 then none else some n

/-! ## Decoding a request frame (R188) -/

/-- The body of a request of a kind; none when the body length is not the one its kind takes (R188). -/
def decodeBody (k : Kind) (body : List Byte) : Option Request :=
  match k, body with
  | .fetch, [c] => some (.fetch c.toNat)
  | .openPort, [] => some .openPort
  | .closePort, [] => some .closePort
  | .register, u2 :: u1 :: u0 :: cls :: seq :: fresh :: a :: g :: n :: ids =>
    if n.toNat ≤ Config.maxTalkgroupCount ∧ ids.length = 2 * n.toNat then
      some (.register ⟨three u2 u1 u0, cls.toNat, seq.toNat, fresh.getLsbD 0, a.toNat, g.toNat, twos ids⟩)
    else none
  | .deregister, [u2, u1, u0] => some (.deregister (three u2 u1 u0))
  | .measure, [u2, u1, u0, source, s1, s0, a, g] =>
    some (.measure ⟨three u2 u1 u0, source.toNat, two s1 s0, a.toNat, g.toNat⟩)
  | .callStart, [u2, u1, u0] => some (.callStart (three u2 u1 u0))
  | .callEnd, [u2, u1, u0] => some (.callEnd (three u2 u1 u0))
  | .claimIn, [u2, u1, u0, s1, s0, seq, fresh] => some (.claimIn ⟨three u2 u1 u0, two s1 s0, seq.toNat, fresh.getLsbD 0⟩)
  | .askIn, u2 :: u1 :: u0 :: s1 :: s0 :: cls :: seq :: n :: ids =>
    if n.toNat ≤ Config.maxTalkgroupCount ∧ ids.length = 2 * n.toNat then
      some (.askIn ⟨three u2 u1 u0, two s1 s0, cls.toNat, seq.toNat, twos ids⟩)
    else none
  | .answer, [slot, generation, u2, u1, u0, s1, s0, answer] =>
    some (.answer ⟨slot.toNat, generation.toNat, three u2 u1 u0, two s1 s0, answer.toNat⟩)
  | .linkStatus, [s1, s0, state] => some (.linkStatus (two s1 s0) state.toNat)
  | .setProfileField, [profile, code, v1, v0] => some (.setProfileField profile.toNat code.toNat (two v1 v0))
  | .loadLevelTable, start :: n :: entries =>
    if entries.length = 2 * n.toNat then some (.loadLevelTable start.toNat (pairs entries)) else none
  | .loadErrorTable, start :: n :: entries =>
    if entries.length = n.toNat then some (.loadErrorTable start.toNat (entries.map BitVec.toNat)) else none
  | .setNeighbour, [slot, s1, s0, bias] => some (.setNeighbour slot.toNat (two s1 s0) bias.toInt)
  | .setLimits, [r1, r0, a1, a0, t] =>
    some (.setLimits ⟨limitOfWire (two r1 r0), limitOfWire (two a1 a0), thresholdOfWire t.toNat⟩)
  | .setSite, [s1, s0] => some (.setSite (two s1 s0))
  | .lock, [groups] => some (.lock groups)
  | .unlock, [groups] => some (.unlock groups)
  | .setIncidentLocks, [groups] => some (.setIncidentLocks groups)
  | .declareIncident, [] => some .declareIncident
  | .standDown, [] => some .standDown
  | .siteReset, [force] => some (.siteReset (force.getLsbD 0))
  | .unmute, [port] => some (.unmute port.toNat)
  | .forceClose, [port] => some (.forceClose port.toNat)
  | .readRecord, [u2, u1, u0] => some (.readRecord (three u2 u1 u0))
  | .siteStatus, [] => some .siteStatus
  | _, _ => none

/-- Step 1 of the order of checks on a whole frame: at least two bytes, a known kind, the byte count L + 2, and the L of the
kind (R188). -/
def decodeFrame : List Byte → Option Request
  | kind :: len :: body =>
    if body.length = len.toNat then
      match Kind.ofCode kind.toNat with
      | some k => decodeBody k body
      | none => none
    else none
  | _ => none

/-! ## Encoding a request frame (R188) -/

/-- A mark byte; the other bits are ignored on arrival and sent as 0 here (R187). -/
def byteOfMark (b : Bool) : List Byte := byte1 b.toNat

/-- The body of a request (R188). -/
def Request.body : Request → List Byte
  | .fetch count => byte1 count
  | .openPort => []
  | .closePort => []
  | .register f =>
    byte3 f.unit ++ byte1 f.cls ++ byte1 f.seq ++ byteOfMark f.fresh ++ byte1 f.attenuation ++ byte1 f.grade
      ++ byte1 f.talkgroups.length ++ f.talkgroups.flatMap byte2
  | .deregister unit => byte3 unit
  | .measure f => byte3 f.unit ++ byte1 f.source ++ byte2 f.site ++ byte1 f.attenuation ++ byte1 f.grade
  | .callStart unit => byte3 unit
  | .callEnd unit => byte3 unit
  | .claimIn f => byte3 f.unit ++ byte2 f.site ++ byte1 f.seq ++ byteOfMark f.fresh
  | .askIn f =>
    byte3 f.unit ++ byte2 f.origin ++ byte1 f.cls ++ byte1 f.seq ++ byte1 f.talkgroups.length ++ f.talkgroups.flatMap byte2
  | .answer f => byte1 f.slot ++ byte1 f.generation ++ byte3 f.unit ++ byte2 f.site ++ byte1 f.answer
  | .linkStatus site state => byte2 site ++ byte1 state
  | .setProfileField profile code value => byte1 profile ++ byte1 code ++ byte2 value
  | .loadLevelTable start entries =>
    byte1 start ++ byte1 entries.length ++ entries.flatMap (fun e => byte1 e.1 ++ byte1 e.2)
  | .loadErrorTable start entries => byte1 start ++ byte1 entries.length ++ entries.flatMap byte1
  | .setNeighbour slot site bias => byte1 slot ++ byte2 site ++ [BitVec.ofInt 8 bias]
  | .setLimits f => byte2 (f.reserve.getD 65535) ++ byte2 (f.allowance.getD 65535) ++ byte1 (f.threshold.getD 255)
  | .setSite site => byte2 site
  | .lock groups => [groups]
  | .unlock groups => [groups]
  | .setIncidentLocks groups => [groups]
  | .declareIncident => []
  | .standDown => []
  | .siteReset force => byteOfMark force
  | .unmute port => byte1 port
  | .forceClose port => byte1 port
  | .readRecord unit => byte3 unit
  | .siteStatus => []

/-- The frame of a request: kind code, body length, body (R187). -/
def Request.frame (r : Request) : List Byte :=
  byte1 r.kind.code ++ byte1 r.body.length ++ r.body

end Sys2Proof
end

