-- ==== Sys2Proof/Machine/State.lean ====
section
/-! DEFINITION. The state of the SR-24 (00 section 2.1), plain data, and the state after power-on (10 R184). -/

namespace Sys2Proof.Machine

/-- No rule of the spec stops the engine: a request that cannot be served is answered REFUSED (R167), which is a next state.
So no command raises a fault, and this type has no constructor. -/
inductive Fault where
deriving DecidableEq, Repr

/-- Why a command has no meaning in this model. -/
inductive Refusal where
  /-- The host's refusal of a command that has no meaning yet, raised only by an arm of exec. No arm uses it. Safe. -/
  | notModelled (mnemonic : String)
deriving DecidableEq, Repr

/-! ## Enumerations and counters -/

/-- The states of an occupied record (R1); a FREE record is an absent one. -/
inductive RecordState where
  | expected
  | active
  | transit
  | lost
deriving DecidableEq, Repr

/-- Handover classes, numbered 0 to 3 (R2). -/
inductive RadioClass where
  | command
  | air
  | crew
  | general
deriving DecidableEq, Repr

/-- Sweep parity and sweep stamp (R2, R70). -/
inductive Parity where
  | even
  | odd
deriving DecidableEq, Repr

/-- Why a transaction is HELD (R91). -/
inductive HoldReason where
  | call
  | room
deriving DecidableEq, Repr

/-- The phases of a transaction slot that is not FREE (R91). -/
inductive Phase where
  | asked
  | held (reason : HoldReason)
  | ordered
deriving DecidableEq, Repr

/-- The link state of a neighbour (R133). -/
inductive LinkState where
  | up
  | fading
  | down
deriving DecidableEq, Repr

/-- The two profiles, and the selection (R149). -/
inductive ProfileName where
  | normal
  | incident
deriving DecidableEq, Repr

/-- The state of a channel port (R161). -/
inductive PortState where
  | closed
  | opened
  | muted
deriving DecidableEq, Repr

/-- The link threshold (R176). -/
inductive Threshold where
  | quarter
  | half
  | threeQuarters
  | full
deriving DecidableEq, Repr

/-- A running timer: the whole steps left, and the 10 ms units already counted inside the current step. The second is the
model's own (log entry 6). -/
structure Timer where
  steps : Nat
  counted : Nat
deriving DecidableEq, Repr

/-! ## The visitor table (01) -/

/-- One neighbour estimate of a record (R2). `late` marks an entry that a sample made while the record had a transaction towards its
site: such an entry is not the one R108 speaks of, and takes no cooldown when that transaction fails (the model's own field, log
entries 24 and 27). -/
structure NeighbourEntry where
  site : Nat
  estimate : Nat
  age : Nat
  better : Nat
  cooldown : Nat
  late : Bool
deriving DecidableEq, Repr

/-- An occupied visitor record (R2). The history is newest first. `serving` c is channel port c + 1. -/
structure Record where
  unit : Nat
  state : RecordState
  cls : RadioClass
  seq : Nat
  serving : Option (Fin 4)
  talkgroups : List Nat
  home : Option Nat
  neighbours : List NeighbourEntry
  heard : Bool
  history : Vector Bool 8
  inCall : Bool
  queued : Bool
  target : Option Nat
  slot : Option (Fin 8)
  claimPending : Bool
  stateAge : Nat
  origin : Option Nat
  stamp : Parity
deriving DecidableEq, Repr

/-- A record's index, 0 to 383 (R1). -/
abbrev Index := Fin 384

/-- The visitor table. The counts of records by state are computed from the records (R1, log entry 15). -/
structure VisitorTable where
  records : Vector (Option Record) 384
  chains : Vector (List Index) 127
  age : List Index
  free : List Index
  reserve : Nat
deriving DecidableEq, Repr

/-! ## Scoring, registration, sweep, handover (02 to 05) -/

/-- A level table entry (R30). -/
structure LevelEntry where
  score : Nat
  cap : Nat
deriving DecidableEq, Repr

structure ScoringUnit where
  levels : Vector LevelEntry 61
  penalties : Vector Nat 16
deriving DecidableEq, Repr

/-- An entry of the pending-claims list (R65). -/
structure PendingClaim where
  index : Index
  fresh : Bool
deriving DecidableEq, Repr

/-- The profile snapshot of a sweep (R72). -/
structure Snapshot where
  hysteresis : Nat
  dwell : Nat
  rescueFloor : Nat
  lossWindow : Nat
  lostHold : Nat
  arrivalTimeout : Nat
  estimateLife : Nat
deriving DecidableEq, Repr

/-- The sweep unit (R70). -/
structure SweepUnit where
  timer : Timer
  parity : Parity
  inFlight : Bool
  unvisited : Nat
  due : Bool
  snapshot : Option Snapshot
deriving DecidableEq, Repr

/-- What a slot that is not FREE holds (R91). -/
structure Transaction where
  phase : Phase
  record : Index
  target : Nat
  timer : Timer
  claimTimeout : Nat
  orderHold : Nat
deriving DecidableEq, Repr

/-- A transaction slot; FREE when it holds no transaction (R91). -/
structure Slot where
  generation : Nat
  transaction : Option Transaction
deriving DecidableEq, Repr

/-- The handover unit: class queues numbered by class, and slots (R90, R91). -/
structure HandoverUnit where
  queues : Vector (List Index) 4
  slots : Vector Slot 8
deriving DecidableEq, Repr

/-! ## Interest map, neighbours, profiles (06 to 08) -/

/-- A map place's number (R118). -/
abbrev Place := Fin 256

/-- JOINED, or LEAVING with its leave timer (R118). -/
inductive MapPhase where
  | joined
  | leaving (timer : Timer)
deriving DecidableEq, Repr

/-- An entry of the interest map (R118). -/
structure MapEntry where
  talkgroup : Nat
  count : Nat
  phase : MapPhase
  announced : Bool
  leaveOwed : Bool
deriving DecidableEq, Repr

/-- The interest map, with the leaving order as places (R118, R123, R126). -/
structure InterestMap where
  places : Vector (Option MapEntry) 256
  leaving : List Place
  owedLeaves : List Nat
deriving DecidableEq, Repr

/-- A neighbour table slot that is not empty (R133). -/
structure Neighbour where
  site : Nat
  bias : Int
  link : LinkState
deriving DecidableEq, Repr

/-- The fifteen fields of a profile, in the order of their codes (R150). -/
structure Profile where
  sweepPeriod : Nat
  smoothing : Nat
  hysteresis : Nat
  dwell : Nat
  rescueFloor : Nat
  lossWindow : Nat
  lostHold : Nat
  arrivalTimeout : Nat
  estimateLife : Nat
  refusalCooldown : Nat
  answerTimeout : Nat
  claimTimeout : Nat
  orderHold : Nat
  leaveHold : Nat
  flushTime : Nat
deriving DecidableEq, Repr

structure ProfileStore where
  normal : Profile
  incidentProfile : Profile
  selection : ProfileName
  incident : Bool
deriving DecidableEq, Repr

/-! ## Notices and confirmations (09, 11) -/

/-- A notice of a channel queue (R171). -/
inductive ChannelNotice where
  | move (unit target : Nat) (slot : Fin 8) (generation : Nat)
  | poll (unit : Nat)
deriving DecidableEq, Repr

/-- A notice of the link queue (R172, with the contents of R95, R109, R66, R64, R127, R126, R144). -/
inductive LinkNotice where
  | ask (unit asking target : Nat) (slot : Fin 8) (generation : Nat) (cls : RadioClass) (seq : Nat) (talkgroups : List Nat)
  | cancel (unit asking target : Nat) (slot : Fin 8) (generation : Nat)
  | claim (unit site seq : Nat) (fresh : Bool)
  | counterclaim (unit holding seq answered : Nat)
  | join (talkgroup site : Nat)
  | leave (talkgroup site : Nat)
  | refresh (site : Nat)
deriving DecidableEq, Repr

/-- A link notice and the time it has waited since its posting, in 10 ms (R172, R176, log entry 7). -/
structure QueuedNotice where
  notice : LinkNotice
  waited : Nat
deriving DecidableEq, Repr

/-- The alarm keys; `portMuted c` is PORT_MUTED-(c + 1) (R173). -/
inductive AlarmKey where
  | tableFull
  | mapFull
  | portMuted (c : Fin 4)
  | linkClosed
  | neighbourDown
deriving DecidableEq, Repr

/-- An entry of the maintenance queue (R173). -/
structure Alarm where
  key : AlarmKey
  repeats : Nat
  detail : Nat
deriving DecidableEq, Repr

/-- A notice as FETCH returns it (R174, R191). -/
inductive Notice where
  | channel (n : ChannelNotice)
  | link (n : LinkNotice)
  | alarm (a : Alarm)
deriving DecidableEq, Repr

/-- The reasons of a REFUSED outcome (R167). PRESENT is never one (R167, R189). -/
inductive Reason where
  | format
  | role
  | closed
  | muted
  | notReady
  | locked
  | range
  | full
  | stale
  | unknown
  | busy
deriving DecidableEq, Repr

/-- The effects a DONE confirmation may carry (R167). -/
inductive Effect where
  | applied
  | discarded
  | kept
  | yielded
  | none
deriving DecidableEq, Repr

/-- Whether an offered notice was posted or dropped (R147). -/
inductive Fate where
  | posted
  | dropped
deriving DecidableEq, Repr

/-- What a done REGISTER was (R49). -/
inductive Registration where
  | new
  | arrived
  | refreshed
  | renewed
  | superseded
  | reactivated
deriving DecidableEq, Repr

/-- The estimate that a sample was written into (R27). -/
inductive EstimateTarget where
  | home
  | site (n : Nat)
deriving DecidableEq, Repr

/-- What an ASK IN answers (R114). -/
inductive AskAnswer where
  | accept
  | refuseFull
  | refusePresent
deriving DecidableEq, Repr

/-- What an ANSWER did to its transaction (R96). -/
inductive AnswerResult where
  | ended
  | held (reason : HoldReason)
  | ordered
  | abandoned (cancel : Fate)
deriving DecidableEq, Repr

/-- One Bool for each lock group (R179). -/
structure LockGroups where
  tables : Bool
  profiles : Bool
  neighbours : Bool
  limits : Bool
deriving DecidableEq, Repr

/-- The transaction items of READ RECORD (R21). -/
structure TransactionItems where
  phase : Phase
  slot : Fin 8
  generation : Nat
  target : Nat
  remaining : Nat
deriving DecidableEq, Repr

/-- The results of a done REGISTER (R49, R110). -/
structure RegisterResult where
  registration : Registration
  index : Index
  seq : Nat
  grant : List Nat
  claimPending : Bool
  sample : Nat
  weight : Nat
  home : Nat
  cancel : Option Fate
deriving DecidableEq, Repr

/-- The items of SITE STATUS (R183). -/
structure StatusResult where
  site : Nat
  freeCount : Nat
  expectedCount : Nat
  activeCount : Nat
  transitCount : Nat
  lostCount : Nat
  slotsInUse : Nat
  classQueues : List Nat
  pendingClaims : Nat
  joined : Nat
  leaving : Nat
  owedLeaves : Nat
  sweepInFlight : Bool
  parity : Parity
  unvisited : Nat
  incident : Bool
  selection : ProfileName
  maintenanceState : PortState
  linkState : PortState
  channelStates : List PortState
  maintenanceQueue : Nat
  linkQueue : Nat
  channelQueues : List Nat
  ownLocks : LockGroups
  marks : LockGroups
  effective : LockGroups
  reserve : Nat
  allowance : Nat
  threshold : Threshold
deriving DecidableEq, Repr

/-- The result fields of a DONE confirmation, by the kind's own rule (R167). -/
inductive Result where
  /-- R174 -/
  | fetched (notices : List Notice) (left : Nat)
  /-- R162 -/
  | opened (previous : PortState) (discarded : Option Nat)
  /-- R163, R164 -/
  | closed (previous : PortState) (discarded : Nat)
  /-- R49 -/
  | registered (r : RegisterResult)
  /-- R57 -/
  | deregistered (prior : RecordState) (cancel : Option Fate)
  /-- R27 -/
  | measured (sample weight : Nat) (target : Option EstimateTarget) (estimate displaced : Option Nat)
  /-- R58 -/
  | callStarted (state : RecordState)
  /-- R59, R109 (log entry 17) -/
  | callEnded (cancel : Option Fate)
  /-- R60 -/
  | claimSettled (prior : Option RecordState) (seq : Option Nat) (counterclaim : Option Fate)
  /-- R114 -/
  | asked (answer : AskAnswer) (index : Option Index) (prior : Option RecordState) (seq : Option Nat)
  /-- R96 -/
  | answered (r : AnswerResult)
  /-- R138 -/
  | linkStatus (slot : Fin 12) (previous : LinkState) (endedWithdrawn : Option (Nat × Nat))
  /-- R151 -/
  | profileField (profile : ProfileName) (code stored previous : Nat) (selected : Bool)
  /-- R32 -/
  | levelsStored (entries : List LevelEntry)
  /-- R32 -/
  | penaltiesStored (entries : List Nat)
  /-- R135; removal: records that lost an entry, records withdrawn, transactions ended -/
  | neighbourStored (stored : Option Neighbour) (previous : Option Nat) (removal : Option (Nat × Nat × Nat))
  /-- R182; each pair is previous and stored -/
  | limits (reserve allowance : Nat × Nat) (threshold : Threshold × Threshold)
  /-- R177 -/
  | site (previous stored : Nat)
  /-- R180; own locks before and after, effective locks after -/
  | locks (before after effective : LockGroups)
  /-- R181; marks before and after, effective locks after -/
  | marks (before after effective : LockGroups)
  /-- R154, R155 -/
  | incidentBefore (flag : Bool) (selection : ProfileName)
  /-- R186 -/
  | siteReset (released ended removed link : Nat) (channels : List Nat) (refresh : Option Fate) (forced : Bool)
  /-- R165 -/
  | unmuted (previous : PortState) (chatter : Nat)
  /-- R20, R21 -/
  | record (index : Index) (r : Record) (items : Option TransactionItems)
  /-- R183 -/
  | status (r : StatusResult)
deriving DecidableEq, Repr

/-- The outcome part of a confirmation (R167, R189). -/
inductive Reply where
  | refused (reason : Reason)
  /-- REFUSED STALE, with the stored sequence (R53) -/
  | stale (seq : Nat)
  | done (adjusted : Bool) (effect : Option Effect) (result : Result)
deriving DecidableEq, Repr

/-- A confirmation: the kind byte as received, and the reply (R167, R188). -/
structure Confirmation where
  kind : Nat
  reply : Reply
deriving DecidableEq, Repr

/-! ## Ports, protection, the whole state (09, 10) -/

/-- Port 0. It is OPEN at all times (R161). -/
structure MaintenancePort where
  alarms : List Alarm
  attention : Bool
  outbound : List Confirmation
deriving DecidableEq, Repr

/-- Port 1, CLOSED or OPEN (R161), with the link notice queue and the owed REFRESH (R144, R172). -/
structure LinkPort where
  isOpen : Bool
  queue : List QueuedNotice
  refreshOwed : Bool
  attention : Bool
  outbound : List Confirmation
deriving DecidableEq, Repr

/-- A channel port (R161, R169, R171). -/
structure ChannelPort where
  state : PortState
  chatter : Nat
  queue : List ChannelNotice
  attention : Bool
  outbound : List Confirmation
deriving DecidableEq, Repr

/-- The port unit (00 section 2.1). -/
structure PortUnit where
  maintenance : MaintenancePort
  link : LinkPort
  channels : Vector ChannelPort 4
  allowance : Nat
  threshold : Threshold
deriving DecidableEq, Repr

/-- Protection and identity (R177, R179). -/
structure Protection where
  site : Nat
  own : LockGroups
  marks : LockGroups
deriving DecidableEq, Repr

/-- The state of the engine, block by block (00 section 2.1), with the commands that wait (log entry 1). -/
structure State where
  pending : List Instr
  resetPinLow : Bool
  visitors : VisitorTable
  scoring : ScoringUnit
  claims : List PendingClaim
  sweep : SweepUnit
  handover : HandoverUnit
  interest : InterestMap
  neighbours : Vector (Option Neighbour) 12
  profiles : ProfileStore
  ports : PortUnit
  protection : Protection
deriving DecidableEq, Repr

/-! ## After power-on (R184) -/

/-- R23 -/
def VisitorTable.reset : VisitorTable where
  records := Vector.replicate 384 none
  chains := Vector.replicate 127 []
  age := []
  free := List.finRange 384
  reserve := 32

/-- R30, R31 -/
def ScoringUnit.reset : ScoringUnit where
  levels := Vector.ofFn (fun i => ⟨4 * i.val, if i.val ≤ 9 then 8 else 16⟩)
  penalties := Vector.ofFn (fun g => 8 * g.val)

/-- The NORMAL defaults (R150). -/
def Profile.normalDefault : Profile :=
  ⟨8, 4, 8, 3, 20, 4, 30, 10, 6, 10, 20, 80, 100, 30, 20⟩

/-- The INCIDENT defaults (R150). -/
def Profile.incidentDefault : Profile :=
  ⟨4, 8, 12, 5, 30, 6, 120, 20, 8, 6, 15, 60, 150, 120, 5⟩

/-- R149 -/
def ProfileStore.reset : ProfileStore :=
  ⟨.normalDefault, .incidentDefault, .normal, false⟩

/-- R68, R70: the timer starts loaded with NORMAL's sweep period. -/
def SweepUnit.reset : SweepUnit where
  timer := ⟨Profile.normalDefault.sweepPeriod, 0⟩
  parity := .even
  inFlight := false
  unvisited := 0
  due := false
  snapshot := none

/-- R90, R91 -/
def HandoverUnit.reset : HandoverUnit :=
  ⟨Vector.replicate 4 [], Vector.replicate 8 ⟨0, none⟩⟩

/-- R118, R130 -/
def InterestMap.reset : InterestMap :=
  ⟨Vector.replicate 256 none, [], []⟩

/-- R161, R169, R176 -/
def PortUnit.reset : PortUnit where
  maintenance := ⟨[], false, []⟩
  link := ⟨false, [], false, false, []⟩
  channels := Vector.replicate 4 ⟨.closed, 0, [], false, []⟩
  allowance := 256
  threshold := .half

/-- R177, R179 -/
def Protection.reset : Protection :=
  ⟨0, ⟨false, false, false, false⟩, ⟨false, true, true, false⟩⟩

/-- The engine right after power-on (R184), with no command waiting. -/
def State.reset : State where
  pending := []
  resetPinLow := false
  visitors := .reset
  scoring := .reset
  claims := []
  sweep := .reset
  handover := .reset
  interest := .reset
  neighbours := Vector.replicate 12 none
  profiles := .reset
  ports := .reset
  protection := .reset

end Sys2Proof.Machine
end

