-- ==== Sys2Proof/Machine/Operands.lean ====
section
/-! DEFINITION. What the operands of a command mean: ranges, clamps, codes (11 R187), the requested talkgroup list (03 R47),
the comparison of roam sequences (03 R45) and the reading of a measurement (02 R28 to R38). -/

namespace Sys2Proof.Machine

/-- A value outside a range replaced by the nearest end (00 section 5.4). -/
def clamp (lo hi n : Nat) : Nat := max lo (min hi n)

/-- A unit ID that names a radio (R2, R5). -/
def unitInRange (n : Nat) : Bool := decide (1 ≤ n ∧ n ≤ Config.maxUnit)

/-- A site number that names a site (R133). -/
def siteInRange (n : Nat) : Bool := decide (1 ≤ n ∧ n ≤ Config.maxSite)

/-- A talkgroup ID that names a talkgroup (R2). -/
def talkgroupInRange (n : Nat) : Bool := decide (1 ≤ n ∧ n ≤ Config.maxTalkgroup)

/-- A roam sequence or generation (R2, R91). -/
def fitsSequence (n : Nat) : Bool := decide (n ≤ 15)

/-! ## Codes (R187) -/

/-- Classes 0 to 3 (R2). -/
def RadioClass.ofCode : Nat → Option RadioClass
  | 0 => some .command
  | 1 => some .air
  | 2 => some .crew
  | 3 => some .general
  | _ => none

/-- The number of a class (R2). -/
def RadioClass.index : RadioClass → Fin 4
  | .command => 0
  | .air => 1
  | .crew => 2
  | .general => 3

def LinkState.ofCode : Nat → Option LinkState
  | 0 => some .up
  | 1 => some .fading
  | 2 => some .down
  | _ => none

def ProfileName.ofCode : Nat → Option ProfileName
  | 0 => some .normal
  | 1 => some .incident
  | _ => none

def Threshold.ofCode : Nat → Option Threshold
  | 0 => some .quarter
  | 1 => some .half
  | 2 => some .threeQuarters
  | 3 => some .full
  | _ => none

/-- The notices a threshold stands for (R176). -/
def Threshold.count : Threshold → Nat
  | .quarter => 16
  | .half => 32
  | .threeQuarters => 48
  | .full => 64

/-- The groups a selection byte names; bits 4 to 7 are ignored (R187). -/
def LockGroups.ofByte (b : Byte) : LockGroups :=
  ⟨b.getLsbD 0, b.getLsbD 1, b.getLsbD 2, b.getLsbD 3⟩

/-- A selection that names no group (R180). -/
def LockGroups.isEmpty (g : LockGroups) : Bool :=
  !(g.tables || g.profiles || g.neighbours || g.limits)

/-- The channel port of a number 1 to 4 (R165). -/
def channelOfNumber (n : Nat) : Option (Fin 4) :=
  if h : 1 ≤ n ∧ n ≤ 4 then some ⟨n - 1, by omega⟩ else none

/-- A slot number below a bound (R96, R135). -/
def slotOfNumber (bound n : Nat) : Option (Fin bound) :=
  if h : n < bound then some ⟨n, h⟩ else none

/-! ## The requested list (R47) -/

/-- A list with every later appearance of a value removed. -/
def dropRepeats : List Nat → List Nat
  | [] => []
  | t :: ts => t :: (dropRepeats ts).filter (fun u => u != t)

/-- The three steps of R47: the first four IDs, without 0 and 65,535, without repeats. -/
def requestedList (ids : List Nat) : List Nat :=
  dropRepeats ((ids.take Config.talkgroups).filter talkgroupInRange)

/-- Whether a step of R47 removed an ID. -/
def listReduced (ids : List Nat) : Bool := (requestedList ids).length != ids.length

/-! ## Roam sequences (R45) -/

/-- How a received sequence stands to a stored one (R45). -/
inductive Relation where
  | equal
  | newer
  | notNewer
deriving DecidableEq, Repr

/-- The comparison of R45: the fresh mark counts as newer than any stored sequence. -/
def relation (stored received : Nat) (fresh : Bool) : Relation :=
  if fresh then .newer
  else
    let d := (received + 16 - stored % 16) % 16
    if d = 0 then .equal else if d ≤ 7 then .newer else .notNewer

/-! ## Scoring (R28 to R39) -/

/-- A scored measurement: sample x, weight w before R37, and whether a value was clamped (R28, R34, R35). -/
structure Scored where
  sample : Nat
  weight : Nat
  adjusted : Bool
deriving DecidableEq, Repr

/-- The level index of an attenuation (R28, R29). -/
def levelIndex (attenuation : Nat) : Fin 61 :=
  Fin.ofNat 61 ((140 - clamp 20 140 attenuation) / 2)

/-- The error table index of a grade (R28, R31). -/
def gradeIndex (grade : Nat) : Fin 16 := Fin.ofNat 16 (clamp 0 15 grade)

/-- Sample and weight of a measurement, with the smoothing weight W of the selected profile (R28 to R35). -/
def ScoringUnit.score (u : ScoringUnit) (smoothing attenuation grade : Nat) : Scored where
  sample := u.levels[levelIndex attenuation].score - u.penalties[gradeIndex grade]
  weight := min smoothing u.levels[levelIndex attenuation].cap
  adjusted := clamp 20 140 attenuation != attenuation || clamp 0 15 grade != grade

/-- The update of a present estimate (R38): a step of d × w / 16, truncated toward zero. -/
def smoothed (estimate sample weight : Nat) : Nat :=
  ((estimate : Int) + ((((16 * sample : Nat) : Int) - estimate) * weight).tdiv 16).toNat

end Sys2Proof.Machine
end

