-- ==== Sys2Proof/Machine/Flags.lean ====
section
/-! DEFINITION. The signals that are a function of the rest of the state: the attention lines (09 R175, R176), the effective locks
(08 R157) and the counts of records by state (01 R1). -/

namespace Sys2Proof.Machine

/-- The profile of a name (R149). -/
def ProfileStore.profile (p : ProfileStore) : ProfileName → Profile
  | .normal => p.normal
  | .incident => p.incidentProfile

/-- The selected profile (R149). -/
def State.selected (s : State) : Profile := s.profiles.profile s.profiles.selection

/-- ASK, CANCEL, CLAIM and COUNTERCLAIM are urgent; JOIN, LEAVE and REFRESH are not (R172). -/
def LinkNotice.urgent : LinkNotice → Bool
  | .ask _ _ _ _ _ _ _ _ => true
  | .cancel _ _ _ _ _ => true
  | .claim _ _ _ _ => true
  | .counterclaim _ _ _ _ => true
  | .join _ _ => false
  | .leave _ _ => false
  | .refresh _ => false

/-- The three conditions of the link attention line (R176). -/
def linkCondition (queue : List QueuedNotice) (threshold : Threshold) (flushTime : Nat) : Bool :=
  queue.any (fun q => q.notice.urgent) || decide (threshold.count ≤ queue.length)
    || queue.head?.any (fun q => decide (flushTime ≤ q.waited))

/-- A channel port with its line as R175 has it. -/
def ChannelPort.withLine (c : ChannelPort) : ChannelPort := { c with attention := !c.queue.isEmpty }

/-- Every attention line as R175 and R176 have it. -/
def State.refreshLines (s : State) : State :=
  { s with ports :=
    { s.ports with
      maintenance := { s.ports.maintenance with attention := !s.ports.maintenance.alarms.isEmpty }
      link := { s.ports.link with
        attention := linkCondition s.ports.link.queue s.ports.threshold s.selected.flushTime }
      channels := s.ports.channels.map ChannelPort.withLine } }

/-- The effective lock of each group (R157). -/
def State.effectiveLocks (s : State) : LockGroups where
  tables := s.protection.own.tables || (s.profiles.incident && s.protection.marks.tables)
  profiles := s.protection.own.profiles || (s.profiles.incident && s.protection.marks.profiles)
  neighbours := s.protection.own.neighbours || (s.profiles.incident && s.protection.marks.neighbours)
  limits := s.protection.own.limits || (s.profiles.incident && s.protection.marks.limits)

/-- The number of records in an occupied state (R1). -/
def VisitorTable.count (t : VisitorTable) (st : RecordState) : Nat :=
  t.records.toList.countP (fun r => r.any (fun x => x.state == st))

/-- The number of FREE records (R1). -/
def VisitorTable.freeCount (t : VisitorTable) : Nat := t.records.toList.countP Option.isNone

end Sys2Proof.Machine
end

