-- ==== Sys2Proof/Machine/Ops.lean ====
section
/-! DEFINITION. Shared operations over the state: records, ports and their queues, alarms, class queues, timers. -/

namespace Sys2Proof.Machine

/-! ## Tables -/

/-- Every place of a table changed: `Vector.map`, by way of the list, so that the kernel evaluates it in one pass. -/
def mapTable {α β : Type} {n : Nat} (f : α → β) (v : Vector α n) : Vector β n :=
  ⟨⟨v.toList.map f⟩, by simp⟩

/-- The lowest-numbered place of a table that a test names, or none. -/
def firstPlace? {α : Type} {n : Nat} (v : Vector α n) (test : α → Bool) : Option (Fin n) :=
  (v.toList.findIdx? test).bind (fun k => if h : k < n then some ⟨k, h⟩ else none)

/-- What a block's service of a request gives: the state, and its reply as a function of the state at the end of the step
(log entry 12). -/
abbrev Served := State × (State → Reply)

/-! ## Records -/

def State.record? (s : State) (i : Index) : Option Record := s.visitors.records[i]

/-- One record changed; a FREE record stays FREE. -/
def VisitorTable.modify (t : VisitorTable) (i : Index) (f : Record → Record) : VisitorTable :=
  { t with records := t.records.set i (t.records[i].map f) }

def State.modifyRecord (s : State) (i : Index) (f : Record → Record) : State :=
  { s with visitors := s.visitors.modify i f }

/-- Every occupied record changed. -/
def State.mapRecords (s : State) (f : Record → Record) : State :=
  { s with visitors := { s.visitors with records := mapTable (Option.map f) s.visitors.records } }

/-! ## Ports -/

def State.modifyChannel (s : State) (c : Fin 4) (f : ChannelPort → ChannelPort) : State :=
  { s with ports := { s.ports with channels := s.ports.channels.set c (f s.ports.channels[c]) } }

def State.modifyLink (s : State) (f : LinkPort → LinkPort) : State :=
  { s with ports := { s.ports with link := f s.ports.link } }

def State.modifyMaintenance (s : State) (f : MaintenancePort → MaintenancePort) : State :=
  { s with ports := { s.ports with maintenance := f s.ports.maintenance } }

/-- The confirmations that wait on a port's outbound line (R160). -/
def State.outbound (s : State) : Port → List Confirmation
  | .maintenance => s.ports.maintenance.outbound
  | .link => s.ports.link.outbound
  | .channel c => s.ports.channels[c].outbound

def State.setOutbound (s : State) (l : List Confirmation) : Port → State
  | .maintenance => s.modifyMaintenance (fun p => { p with outbound := l })
  | .link => s.modifyLink (fun p => { p with outbound := l })
  | .channel c => s.modifyChannel c (fun p => { p with outbound := l })

/-- A confirmation placed behind those that wait on its port (R160). -/
def State.confirm (s : State) (p : Port) (c : Confirmation) : State :=
  s.setOutbound (s.outbound p ++ [c]) p

/-- The state of a port; the maintenance port is OPEN at all times (R161). -/
def State.portState (s : State) : Port → PortState
  | .maintenance => .opened
  | .link => if s.ports.link.isOpen then .opened else .closed
  | .channel c => s.ports.channels[c].state

/-! ## Alarms (R173) -/

/-- An alarm raised: merged into the entry of its key, or appended (R173). -/
def raiseIn (key : AlarmKey) (detail : Nat) : List Alarm → List Alarm
  | [] => [⟨key, 1, detail⟩]
  | a :: rest =>
    if a.key = key then { a with repeats := min 255 (a.repeats + 1), detail := detail } :: rest
    else a :: raiseIn key detail rest

def State.raiseAlarm (s : State) (key : AlarmKey) (detail : Nat) : State :=
  s.modifyMaintenance (fun p => { p with alarms := raiseIn key detail p.alarms })

/-! ## The link queue (R145, R147, R172) -/

/-- The link port is OPEN and its queue holds fewer than 64 notices (R145, R147). -/
def State.linkHasRoom (s : State) : Bool :=
  s.ports.link.isOpen && decide (s.ports.link.queue.length < Config.linkQueue)

/-- One notice at the tail of the link queue, its waiting at 0 (R172). -/
def State.postLink (s : State) (n : LinkNotice) : State :=
  s.modifyLink (fun p => { p with queue := p.queue ++ [⟨n, 0⟩] })

/-- A CANCEL or COUNTERCLAIM offered: posted at once, or dropped (R147). -/
def State.offer (s : State) (n : LinkNotice) : State × Fate :=
  if s.linkHasRoom then (s.postLink n, .posted) else (s, .dropped)

/-! ## Channel queues (R171) -/

def State.postChannel (s : State) (c : Fin 4) (n : ChannelNotice) : State :=
  s.modifyChannel c (fun p => { p with queue := p.queue ++ [n] })

/-! ## Class queues (R90) -/

/-- A record's queued mark and target removed (R90). -/
def Record.unqueued (r : Record) : Record := { r with queued := false, target := none }

/-- A record taken out of whichever class queue holds it; the records behind it keep their order (R90). -/
def HandoverUnit.dequeue (h : HandoverUnit) (i : Index) : HandoverUnit :=
  { h with queues := h.queues.map (fun q => q.filter (fun j => j != i)) }

/-- A record appended to the class queue of a class (R86, R90). -/
def HandoverUnit.enqueue (h : HandoverUnit) (c : RadioClass) (i : Index) : HandoverUnit :=
  { h with queues := h.queues.set c.index (h.queues[c.index] ++ [i]) }

/-- A record withdrawn from its class queue (R90). -/
def State.withdraw (s : State) (i : Index) : State :=
  { s.modifyRecord i Record.unqueued with handover := s.handover.dequeue i }

/-- Every record withdrawn whose queued target the test names; the others keep their order (R137, R139, R141). -/
def State.withdrawTargets (s : State) (test : Nat → Bool) : State :=
  let hit : Option Record → Bool := fun r => r.any (fun x => x.queued && x.target.any test)
  { s.mapRecords (fun r => if hit (some r) then r.unqueued else r) with
    handover := { s.handover with
      queues := s.handover.queues.map (fun q => q.filter (fun i => !hit s.visitors.records[i])) } }

/-- How many records a withdrawal takes (R135, R138). -/
def State.countTargets (s : State) (test : Nat → Bool) : Nat :=
  s.visitors.records.toList.countP (fun r => r.any (fun x => x.queued && x.target.any test))

/-! ## The pending-claims list (R65, R67) -/

/-- A record put on the pending-claims list, or confirmed on it, with the fresh mark of its REGISTER (R65). -/
def State.oweClaim (s : State) (i : Index) (fresh : Bool) : State :=
  let s := s.modifyRecord i (fun r => { r with claimPending := true })
  if s.claims.any (fun e => e.index == i) then
    { s with claims := s.claims.map (fun e => if e.index = i then { e with fresh := e.fresh || fresh } else e) }
  else { s with claims := s.claims ++ [⟨i, fresh⟩] }

/-- A record taken off the pending-claims list, its CLAIM not posted (R17, R117). -/
def State.dropClaim (s : State) (i : Index) : State :=
  { s.modifyRecord i (fun r => { r with claimPending := false }) with
    claims := s.claims.filter (fun e => e.index != i) }

/-! ## Timers (00 section 5.2) -/

/-- A timer loaded with a count of its steps (log entry 6). -/
def Timer.load (steps : Nat) : Timer := ⟨steps, 0⟩

/-- 10 ms of a timer whose step is `unit` times 10 ms. -/
def Timer.advance (t : Timer) (unit : Nat) : Timer :=
  if t.counted + 1 < unit then { t with counted := t.counted + 1 } else ⟨t.steps - 1, 0⟩

/-- A timer that has counted all its steps. -/
def Timer.expired (t : Timer) : Bool := t.steps == 0

/-! ## Neighbour table (R133) -/

/-- The slot that holds a site, or none (R133). -/
def State.neighbourSlot? (s : State) (site : Nat) : Option (Fin 12) :=
  (List.finRange 12).find? (fun k => s.neighbours[k].any (fun n => n.site == site))

/-- The neighbour of a site number, or none (R133). -/
def State.neighbour? (s : State) (site : Nat) : Option Neighbour :=
  (s.neighbourSlot? site).bind (fun k => s.neighbours[k])

end Sys2Proof.Machine
end

