-- ==== Sys2Proof/Machine/Interest.lean ====
section
/-! DEFINITION. The interest map's operations (chapter 06): increments, decrements, reclaim, expiry, announcement. -/

namespace Sys2Proof.Machine

/-- The place of the entry that holds a talkgroup, or none (R118). -/
def InterestMap.place? (m : InterestMap) (tg : Nat) : Option Place :=
  firstPlace? m.places (fun p => p.any (fun e => e.talkgroup == tg))

/-- The lowest-numbered empty place, or none when the map is full (R118). -/
def InterestMap.emptyPlace? (m : InterestMap) : Option Place :=
  firstPlace? m.places Option.isNone

def InterestMap.setPlace (m : InterestMap) (k : Place) (e : Option MapEntry) : InterestMap :=
  { m with places := m.places.set k e }

/-- A new entry in a place: count 1, JOINED, not announced, leave owed as the owed-leaves list has it (R121). -/
def InterestMap.create (m : InterestMap) (k : Place) (tg : Nat) : InterestMap :=
  m.setPlace k (some ⟨tg, 1, .joined, false, m.owedLeaves.contains tg⟩)

/-- An entry removed from its place and from the leaving order; a LEAVE is owed when it was announced (R124, R125). -/
def InterestMap.remove (m : InterestMap) (k : Place) : InterestMap :=
  match m.places[k] with
  | none => m
  | some e =>
    { places := m.places.set k none
      leaving := m.leaving.filter (fun j => j != k)
      owedLeaves := if e.announced then m.owedLeaves ++ [e.talkgroup] else m.owedLeaves }

/-- One increment (R121, R122, R124); none when the talkgroup cannot be mapped. -/
def InterestMap.increment (m : InterestMap) (tg : Nat) : Option InterestMap :=
  match m.place? tg with
  | some k =>
    match m.places[k] with
    | none => some m
    | some e =>
      some { m with
        places := m.places.set k (some { e with count := e.count + 1, phase := .joined })
        leaving := m.leaving.filter (fun j => j != k) }
  | none =>
    match m.emptyPlace? with
    | some k => some (m.create k tg)
    | none =>
      match m.leaving with
      | [] => none
      | k :: _ => some ((m.remove k).create k tg)

/-- One decrement (R123); at 0 the entry goes LEAVING with the leave hold given. -/
def InterestMap.decrement (m : InterestMap) (leaveHold tg : Nat) : InterestMap :=
  match m.place? tg with
  | none => m
  | some k =>
    match m.places[k] with
    | none => m
    | some e =>
      if 2 ≤ e.count then m.setPlace k (some { e with count := e.count - 1 })
      else if e.count = 1 then
        { m with
          places := m.places.set k (some { e with count := 0, phase := .leaving (Timer.load leaveHold) })
          leaving := m.leaving ++ [k] }
      else m

/-- The decrements of one event, in the list's order (R120). -/
def InterestMap.decrementAll (m : InterestMap) (leaveHold : Nat) (tgs : List Nat) : InterestMap :=
  tgs.foldl (fun m tg => m.decrement leaveHold tg) m

/-- The decrements of one event, with the leave hold of the profile selected then (R120, R123). -/
def State.uncountTalkgroups (s : State) (tgs : List Nat) : State :=
  { s with interest := s.interest.decrementAll s.selected.leaveHold tgs }

/-- The increments of one event, in the list's order, and the talkgroups that could be mapped; MAP_FULL is raised with the unit ID
for each that could not (R120, R124). -/
def State.countTalkgroups (s : State) (unit : Nat) : List Nat → State × List Nat
  | [] => (s, [])
  | tg :: rest =>
    match s.interest.increment tg with
    | some m =>
      let r := ({ s with interest := m } : State).countTalkgroups unit rest
      (r.1, tg :: r.2)
    | none => (s.raiseAlarm .mapFull unit).countTalkgroups unit rest

/-- An entry that owes a JOIN that may be taken now (R127). -/
def MapEntry.owesJoin (e : MapEntry) : Bool := e.phase == .joined && !e.announced && !e.leaveOwed

/-- The owing entry with the lowest place number (R127). -/
def InterestMap.nextJoin? (m : InterestMap) : Option (Place × Nat) :=
  (firstPlace? m.places (fun p => p.any MapEntry.owesJoin)).bind (fun k => m.places[k].map (fun e => (k, e.talkgroup)))

/-- The JOIN of a place posted (R127). -/
def InterestMap.markAnnounced (m : InterestMap) (k : Place) : InterestMap :=
  m.setPlace k (m.places[k].map (fun e => { e with announced := true }))

/-- The head of the owed-leaves list posted (R126). -/
def InterestMap.leavePosted (m : InterestMap) (tg : Nat) : InterestMap :=
  { m with
    owedLeaves := m.owedLeaves.tail
    places := mapTable (Option.map (fun e => if e.talkgroup = tg then { e with leaveOwed := false } else e)) m.places }

/-- The link port leaves OPEN (R128). -/
def InterestMap.closed (m : InterestMap) : InterestMap :=
  { m with owedLeaves := [], places := mapTable (Option.map (fun e => { e with leaveOwed := false })) m.places }

/-- The link port opens (R129). -/
def InterestMap.opened (m : InterestMap) : InterestMap :=
  { m with places := mapTable (Option.map (fun e => { e with announced := false })) m.places }

/-- Whether an entry is LEAVING (R118). -/
def MapEntry.isLeaving (e : MapEntry) : Bool :=
  match e.phase with
  | .joined => false
  | .leaving _ => true

/-- The entries in use: JOINED and LEAVING (R183). -/
def InterestMap.countJoined (m : InterestMap) : Nat :=
  m.places.toList.countP (fun p => p.any (fun e => !e.isLeaving))

def InterestMap.countLeaving (m : InterestMap) : Nat :=
  m.places.toList.countP (fun p => p.any MapEntry.isLeaving)

end Sys2Proof.Machine
end

