-- ==== Sys2Proof/Machine/Table.lean ====
section
/-! DEFINITION. The visitor table's operations (chapter 01): lookup, age list, allocation, eviction, release. -/

namespace Sys2Proof.Machine

/-- The bucket of a unit ID (R6). -/
def bucketOf (unit : Nat) : Fin 127 := Fin.ofNat 127 unit

/-- The occupied record that holds a unit ID, found along its bucket chain (R5, R6). -/
def VisitorTable.lookup (t : VisitorTable) (unit : Nat) : Option Index :=
  t.chains[bucketOf unit].find? (fun i => t.records[i].any (fun r => r.unit == unit))

/-- The lookup with the record it finds. -/
def State.find (s : State) (unit : Nat) : Option (Index × Record) :=
  (s.visitors.lookup unit).bind (fun i => (s.record? i).map (fun r => (i, r)))

/-- A record moved to the tail of the age list (R8, R9). -/
def VisitorTable.toTail (t : VisitorTable) (i : Index) : VisitorTable :=
  { t with age := t.age.filter (fun j => j != i) ++ [i] }

def State.toTail (s : State) (i : Index) : State := { s with visitors := s.visitors.toTail i }

/-- The arrival marks its radio heard: heard mark set, record at the tail of the age list (R8). -/
def State.markHeard (s : State) (i : Index) : State :=
  (s.modifyRecord i (fun r => { r with heard := true })).toTail i

/-- A record becomes occupied: head of its chain, tail of the age list (R6, R7). -/
def VisitorTable.occupy (t : VisitorTable) (i : Index) (r : Record) : VisitorTable :=
  { t with
    records := t.records.set i (some r)
    chains := t.chains.set (bucketOf r.unit) (i :: t.chains[bucketOf r.unit])
    age := t.age ++ [i] }

/-- A record leaves its chain and the age list and holds nothing more (R17). -/
def VisitorTable.vacate (t : VisitorTable) (i : Index) (unit : Nat) : VisitorTable :=
  { t with
    records := t.records.set i none
    chains := t.chains.set (bucketOf unit) (t.chains[bucketOf unit].filter (fun j => j != i))
    age := t.age.filter (fun j => j != i) }

/-- The eight heard entries of a new or reactivated record (R16, R56). -/
def allHeard : Vector Bool 8 := Vector.replicate 8 true

/-- A record as allocation fills it (R16). -/
def Record.fresh (unit : Nat) (cls : RadioClass) (seq : Nat) (state : RecordState) (stamp : Parity) : Record where
  unit := unit
  state := state
  cls := cls
  seq := seq
  serving := none
  talkgroups := []
  home := none
  neighbours := []
  heard := false
  history := allHeard
  inCall := false
  queued := false
  target := none
  slot := none
  claimPending := false
  stateAge := 0
  origin := none
  stamp := stamp

/-- A record whose talkgroups the interest map counts (R119). -/
def Record.counted (r : Record) : Bool := r.state == .active || r.state == .transit

/-- A transaction slot freed, its timer stopped, its generation kept (R18, R108). -/
def HandoverUnit.freeSlot (h : HandoverUnit) (k : Fin 8) : HandoverUnit :=
  { h with slots := h.slots.set k { h.slots[k] with transaction := none } }

/-- The transaction of a TRANSIT record ended (R18). -/
def State.endTransaction (s : State) (r : Record) : State :=
  match r.slot with
  | some k => { s with handover := s.handover.freeSlot k }
  | none => s

/-- A record not yet visited taken out of the unvisited count (R17). -/
def SweepUnit.forget (w : SweepUnit) (stamp : Parity) : SweepUnit :=
  if stamp = w.parity then w else { w with unvisited := w.unvisited - 1 }

/-- Everything release does but the append to the free list (R14, R17). -/
def State.detach (s : State) (i : Index) : State :=
  match s.record? i with
  | none => s
  | some r =>
    let s := ((s.withdraw i).dropClaim i).endTransaction r
    let s := if r.counted then s.uncountTalkgroups r.talkgroups else s
    { s with sweep := s.sweep.forget r.stamp, visitors := s.visitors.vacate i r.unit }

/-- Release (R17): the record joins the tail of the free list. -/
def State.release (s : State) (i : Index) : State :=
  match s.record? i with
  | none => s
  | some _ =>
    let s := s.detach i
    { s with visitors := { s.visitors with free := s.visitors.free ++ [i] } }

/-- The LOST record nearest the head of the age list (R9). -/
def VisitorTable.oldestLost (t : VisitorTable) : Option Index :=
  t.age.find? (fun i => t.records[i].any (fun r => r.state == .lost))

/-- Whether the free list gives a record to an allocation of a class (R13). -/
def VisitorTable.freeOpenTo (t : VisitorTable) (cls : RadioClass) : Bool :=
  match cls with
  | .command => true
  | .air => true
  | .crew => decide (t.reserve < t.free.length)
  | .general => decide (t.reserve < t.free.length)

/-- The head of the free list, when it is open to the class (R13). -/
def VisitorTable.freeHead (t : VisitorTable) (cls : RadioClass) : Option Index :=
  if t.freeOpenTo cls then t.free.head? else none

/-- Allocation (R13, R14, R16): the head of the free list, else the oldest LOST record evicted, else none. -/
def State.allocate (s : State) (unit : Nat) (cls : RadioClass) (seq : Nat) (state : RecordState) : Option (State × Index) :=
  let r := Record.fresh unit cls seq state s.sweep.parity
  match s.visitors.freeHead cls with
  | some i =>
    some ({ s with visitors := ({ s.visitors with free := s.visitors.free.tail } : VisitorTable).occupy i r }, i)
  | none =>
    match s.visitors.oldestLost with
    | some i =>
      let s := s.detach i
      some ({ s with visitors := s.visitors.occupy i r }, i)
    | none => none

end Sys2Proof.Machine
end

