-- ==== Sys2Proof/Machine/Transactions.lean ====
section
/-! DEFINITION. The operations on a transaction in flight (chapter 05): failure, CANCEL, the MOVE attempt, the grant. -/

namespace Sys2Proof.Machine

/-- A neighbour entry after a failure: better count 0, and the refusal cooldown on the target's entry when one is set and the record
still holds that entry (R108). An entry for the target that was made during the transaction takes none: the entry of R108 was removed
before (R43, R137; log entry 24), or the record held none at the grant (log entry 27). -/
def NeighbourEntry.afterFailure (e : NeighbourEntry) (target : Nat) (cooldown : Option Nat) : NeighbourEntry :=
  { e with
    better := 0
    cooldown := if e.site = target ∧ e.late = false then cooldown.getD e.cooldown else e.cooldown
    late := false }

/-- A record that returns from TRANSIT to ACTIVE (R108). -/
def Record.afterFailure (r : Record) (target : Nat) (cooldown : Option Nat) : Record :=
  { r with
    state := .active
    slot := none
    neighbours := r.neighbours.map (fun e => e.afterFailure target cooldown) }

/-- A transaction ends by failure (R108), setting the refusal cooldown of the selected profile when the cause calls for it. -/
def State.failTransaction (s : State) (k : Fin 8) (setCooldown : Bool) : State :=
  match s.handover.slots[k].transaction with
  | none => s
  | some t =>
    let cooldown := if setCooldown then some s.selected.refusalCooldown else none
    { s.modifyRecord t.record (fun r => r.afterFailure t.target cooldown) with handover := s.handover.freeSlot k }

/-- The target site of a record's transaction (R91). -/
def State.targetOf? (s : State) (r : Record) : Option Nat :=
  r.slot.bind (fun k => s.handover.slots[k].transaction.map Transaction.target)

/-- The CANCEL notice of a slot's transaction (R109). -/
def State.cancelNotice (s : State) (k : Fin 8) (t : Transaction) : LinkNotice :=
  .cancel (((s.record? t.record).map Record.unit).getD 0) s.protection.site t.target k s.handover.slots[k].generation

/-- The CANCEL of a slot's transaction offered (R109). -/
def State.offerCancel (s : State) (k : Fin 8) : State × Option Fate :=
  match s.handover.slots[k].transaction with
  | none => (s, none)
  | some t =>
    let r := s.offer (s.cancelNotice k t)
    (r.1, some r.2)

/-- A failure whose cause calls for a CANCEL (R108, R109). -/
def State.failWithCancel (s : State) (k : Fin 8) (setCooldown : Bool) : State × Option Fate :=
  let r := s.offerCancel k
  (r.1.failTransaction k setCooldown, r.2)

/-- Whether a slot is ASKED, with a target the test names (R112). -/
def State.asked (s : State) (test : Nat → Bool) (k : Fin 8) : Bool :=
  s.handover.slots[k].transaction.any (fun t => t.phase == .asked && test t.target)

/-- Every ASKED transaction whose target the test names ends by failure with no CANCEL (R112). -/
def State.failAsked (s : State) (test : Nat → Bool) (setCooldown : Bool) : State :=
  (List.finRange 8).foldl (fun s k => if s.asked test k then s.failTransaction k setCooldown else s) s

/-- How many ASKED transactions a test names (R135, R138). -/
def State.countAsked (s : State) (test : Nat → Bool) : Nat := (List.finRange 8).countP (s.asked test)

/-- A slot's transaction replaced. -/
def HandoverUnit.setTransaction (h : HandoverUnit) (k : Fin 8) (t : Transaction) : HandoverUnit :=
  { h with slots := h.slots.set k { h.slots[k] with transaction := some t } }

/-- A slot goes to HELD, or stays there with the reason given; the hold timer is loaded from ASKED only (R99). -/
def State.hold (s : State) (k : Fin 8) (t : Transaction) (reason : HoldReason) : State :=
  let timer := if t.phase = .asked then Timer.load t.orderHold else t.timer
  { s with handover := s.handover.setTransaction k { t with phase := .held reason, timer := timer } }

/-- The MOVE posted to the serving port, the slot ORDERED, the claim timer started (R105). -/
def State.postMove (s : State) (k : Fin 8) (t : Transaction) (unit : Nat) (c : Fin 4) : State :=
  let s := s.postChannel c (.move unit t.target k s.handover.slots[k].generation)
  { s with handover := s.handover.setTransaction k { t with phase := .ordered, timer := Timer.load t.claimTimeout } }

/-- The transaction abandoned: failure with a CANCEL (R99 case 1). -/
def State.abandon (s : State) (k : Fin 8) : State × AnswerResult :=
  let r := s.failWithCancel k true
  (r.1, .abandoned (r.2.getD .dropped))

/-- A MOVE attempt (R99). A TRANSIT record always has a serving port (R3); one without counts as CLOSED (log entry 16). -/
def State.moveAttempt (s : State) (k : Fin 8) : State × AnswerResult :=
  match s.handover.slots[k].transaction with
  | none => (s, .ended)
  | some t =>
    match s.record? t.record with
    | none => (s, .ended)
    | some r =>
      match r.serving with
      | none => s.abandon k
      | some c =>
        if s.ports.channels[c].state = .closed then s.abandon k
        else if r.inCall then (s.hold k t .call, .held .call)
        else if Config.channelQueue ≤ s.ports.channels[c].queue.length then (s.hold k t .room, .held .room)
        else (s.postMove k t r.unit c, .ordered)

/-- Whether a slot is HELD with reason ROOM on a serving port (R103). -/
def State.heldForRoom (s : State) (c : Fin 4) (k : Fin 8) : Bool :=
  s.handover.slots[k].transaction.any (fun t =>
    t.phase == .held .room && (s.record? t.record).any (fun r => r.serving == some c))

/-- Room made on a channel port: its slots HELD for ROOM make their attempts, lowest slot first (R103). -/
def State.roomMade (s : State) (c : Fin 4) : State :=
  (List.finRange 8).foldl (fun s k => if s.heldForRoom c k then (s.moveAttempt k).1 else s) s

/-! ## The grant (R93 to R95) -/

/-- The lowest-numbered FREE slot (R94). -/
def HandoverUnit.freeSlot? (h : HandoverUnit) : Option (Fin 8) :=
  (List.finRange 8).find? (fun k => h.slots[k].transaction.isNone)

/-- The head of the lowest-numbered class queue that is not empty (R94). -/
def HandoverUnit.nextQueued? (h : HandoverUnit) : Option Index :=
  (List.finRange 4).findSome? (fun c => h.queues[c].head?)

/-- The record that a grant takes (R95). -/
def Record.granted (r : Record) (k : Fin 8) : Record :=
  { r with state := .transit, slot := some k, queued := false, target := none }

/-- The slot that a grant gives (R92, R95). -/
def Slot.granted (g : Slot) (i : Index) (target : Nat) (p : Profile) : Slot :=
  ⟨(g.generation + 1) % 16, some ⟨.asked, i, target, Timer.load p.answerTimeout, p.claimTimeout, p.orderHold⟩⟩

/-- The ASK notice of a grant (R95). -/
def askNotice (site target : Nat) (k : Fin 8) (generation : Nat) (r : Record) : LinkNotice :=
  .ask r.unit site target k generation r.cls r.seq r.talkgroups

/-- A grant of a slot to the record at the head of its queue (R95). A queued record always has a target (R3; log entry 16). -/
def State.grant (s : State) (k : Fin 8) (i : Index) (r : Record) : State :=
  let target := r.target.getD 0
  let slot := s.handover.slots[k].granted i target s.selected
  let h := s.handover.dequeue i
  let s := { s.modifyRecord i (fun r => r.granted k) with handover := { h with slots := h.slots.set k slot } }
  s.postLink (askNotice s.protection.site target k slot.generation r)

end Sys2Proof.Machine
end

