-- ==== Sys2Proof/Machine/Arbiter.lean ====
section
/-! DEFINITION. What ends every step: the end of a sweep (04 R71, R75), the grants of the link queue room arbiter (07 R145, R146)
and the attention lines (09 R175, R176), in this order (log entry 14). -/

namespace Sys2Proof.Machine

/-! ## Sweep start and end -/

def Parity.flip : Parity → Parity
  | .even => .odd
  | .odd => .even

/-- The seven fields of the snapshot (R72). -/
def Profile.snapshot (p : Profile) : Snapshot :=
  ⟨p.hysteresis, p.dwell, p.rescueFloor, p.lossWindow, p.lostHold, p.arrivalTimeout, p.estimateLife⟩

/-- The sweep is no longer in flight and its snapshot is discarded (R75). -/
def State.endSweep (s : State) : State :=
  { s with sweep := { s.sweep with inFlight := false, snapshot := none } }

/-- The step that starts a sweep (R71); with no record occupied it ends in the same step. -/
def State.startSweep (s : State) : State :=
  let s := { s with
    sweep := { s.sweep with
      parity := s.sweep.parity.flip
      unvisited := s.visitors.age.length
      snapshot := some s.selected.snapshot
      inFlight := true }
    ports := { s.ports with channels := s.ports.channels.map (fun c => { c with chatter := 0 }) } }
  if s.sweep.unvisited = 0 then s.endSweep else s

/-- The end of a sweep whose unvisited count reached 0, and the start of the one that waits behind it (R75). -/
def State.checkSweep (s : State) : State :=
  if s.sweep.inFlight ∧ s.sweep.unvisited = 0 then
    let s := s.endSweep
    if s.sweep.due then ({ s with sweep := { s.sweep with due := false } } : State).startSweep else s
  else s

/-! ## The room arbiter -/

/-- The REFRESH posted (R144). -/
def State.postRefresh (s : State) : State :=
  (s.modifyLink (fun p => { p with refreshOwed := false })).postLink (.refresh s.protection.site)

/-- The head of the pending-claims list posted as a CLAIM (R66). -/
def State.postClaim (s : State) (e : PendingClaim) : State :=
  let r := s.record? e.index
  let s := { s.modifyRecord e.index (fun r => { r with claimPending := false }) with claims := s.claims.tail }
  s.postLink (.claim ((r.map Record.unit).getD 0) s.protection.site ((r.map Record.seq).getD 0) e.fresh)

/-- The head of the owed-leaves list posted as a LEAVE (R126). -/
def State.postLeave (s : State) (tg : Nat) : State :=
  ({ s with interest := s.interest.leavePosted tg } : State).postLink (.leave tg s.protection.site)

/-- The JOIN of a place posted (R127). -/
def State.postJoin (s : State) (k : Place) (tg : Nat) : State :=
  ({ s with interest := s.interest.markAnnounced k } : State).postLink (.join tg s.protection.site)

/-- The handover arbiter's candidate: a FREE slot and the record at the head of the first class queue (R93, R94). -/
def State.nextGrant? (s : State) : Option (Fin 8 × Index × Record) :=
  s.handover.freeSlot?.bind (fun k => s.handover.nextQueued?.bind (fun i => (s.record? i).map (fun r => (k, i, r))))

/-- One place given to the highest-ranked producer with an item owed (R145, R146); none when no place is granted. -/
def State.grantPlace (s : State) : Option State :=
  if s.linkHasRoom then
    if s.ports.link.refreshOwed then some s.postRefresh
    else match s.claims with
      | e :: _ => some (s.postClaim e)
      | [] =>
        match s.interest.owedLeaves with
        | tg :: _ => some (s.postLeave tg)
        | [] =>
          match s.interest.nextJoin? with
          | some (k, tg) => some (s.postJoin k tg)
          | none =>
            match s.nextGrant? with
            | some (k, i, r) => some (s.grant k i r)
            | none => none
  else none

/-- Places granted one after another, at most `fuel` of them (R145). -/
def State.grantPlaces : Nat → State → State
  | 0, s => s
  | fuel + 1, s =>
    match s.grantPlace with
    | some s' => s'.grantPlaces fuel
    | none => s

/-- Every place that can be granted. A grant fills one of the 64 places, so 64 grants are enough (R145). -/
def State.runArbiter (s : State) : State := s.grantPlaces Config.linkQueue

/-- What follows an event's own effects in its step (log entry 14). -/
def State.settle (s : State) : State := s.checkSweep.runArbiter.refreshLines

end Sys2Proof.Machine
end

