-- ==== Sys2Proof/Machine/Checks.lean ====
section
/-! DEFINITION. The order of checks that every request passes (09 R168), chatter (R169, R170), and the frame of every command:
a request ends in one confirmation (R160, R167), and nothing but power-on is taken while the RESET pin is low (10 R184). -/

namespace Sys2Proof.Machine

/-- The kinds a role admits (R166). -/
def kindAdmitted (k : Kind) : Port → Bool
  | .maintenance =>
    match k with
    | .fetch | .setProfileField | .loadLevelTable | .loadErrorTable | .setNeighbour | .setLimits | .setSite | .lock | .unlock => true
    | .setIncidentLocks | .declareIncident | .standDown | .siteReset | .unmute | .forceClose | .readRecord | .siteStatus => true
    | .openPort | .closePort | .register | .deregister | .measure | .callStart | .callEnd => false
    | .claimIn | .askIn | .answer | .linkStatus => false
  | .link =>
    match k with
    | .fetch | .openPort | .closePort | .claimIn | .askIn | .answer | .linkStatus => true
    | .register | .deregister | .measure | .callStart | .callEnd => false
    | .setProfileField | .loadLevelTable | .loadErrorTable | .setNeighbour | .setLimits | .setSite | .lock | .unlock => false
    | .setIncidentLocks | .declareIncident | .standDown | .siteReset | .unmute | .forceClose | .readRecord | .siteStatus => false
  | .channel _ =>
    match k with
    | .fetch | .openPort | .closePort | .register | .deregister | .measure | .callStart | .callEnd => true
    | .claimIn | .askIn | .answer | .linkStatus => false
    | .setProfileField | .loadLevelTable | .loadErrorTable | .setNeighbour | .setLimits | .setSite | .lock | .unlock => false
    | .setIncidentLocks | .declareIncident | .standDown | .siteReset | .unmute | .forceClose | .readRecord | .siteStatus => false

/-- The kinds that count as chatter (R169). -/
def kindCounted (k : Kind) : Bool := k == .register || k == .measure || k == .callStart || k == .callEnd

/-- Step 3 of the order of checks (R168). -/
def portRefusal (k : Kind) : PortState → Option Reason
  | .closed => if k == .openPort || k == .closePort then none else some .closed
  | .opened => none
  | .muted => if k == .fetch || k == .closePort then none else some .muted

/-- Steps 1 to 3 of the order of checks (R160, R168). A port whose confirmation still waits refuses FORMAT (log entry 9). -/
def State.earlyRefusal (s : State) (k : Kind) (p : Port) (sized : Bool) : Option Reason :=
  if !sized || !(s.outbound p).isEmpty then some .format
  else if !kindAdmitted k p then some .role
  else portRefusal k (s.portState p)

/-- Step 4 on a channel port: the count is raised, or the port is muted (R169, R170). -/
def State.countChatter (s : State) (c : Fin 4) : State × Bool :=
  if s.ports.channels[c].chatter < s.ports.allowance then
    (s.modifyChannel c (fun p => { p with chatter := p.chatter + 1 }), true)
  else ((s.modifyChannel c (fun p => { p with state := .muted })).raiseAlarm (.portMuted c) (c.val + 1), false)

/-- Step 4 of the order of checks: only a counted kind on a channel port is tested (R168, R169). -/
def State.chatterTest (s : State) (k : Kind) (p : Port) : State × Bool :=
  if kindCounted k then
    match p with
    | .channel c => s.countChatter c
    | .link => (s, true)
    | .maintenance => (s, true)
  else (s, true)

/-- The effective lock that a kind's group has; a kind of no group has none (R157, R179). SITE RESET has its own test (R158). -/
def State.kindLocked (s : State) : Kind → Bool
  | .loadLevelTable | .loadErrorTable => s.effectiveLocks.tables
  | .setProfileField => s.effectiveLocks.profiles
  | .setNeighbour => s.effectiveLocks.neighbours
  | .setLimits => s.effectiveLocks.limits
  | .fetch | .openPort | .closePort | .register | .deregister | .measure | .callStart | .callEnd => false
  | .claimIn | .askIn | .answer | .linkStatus | .setSite | .lock | .unlock | .setIncidentLocks => false
  | .declareIncident | .standDown | .siteReset | .unmute | .forceClose | .readRecord | .siteStatus => false

/-- Steps 5 to 7 of the order of checks (R162, R168). -/
def State.lateRefusal (s : State) (k : Kind) (p : Port) (locked inRange : Bool) : Option Reason :=
  if k == .openPort && s.portState p == .closed && s.protection.site == 0 then some .notReady
  else if s.kindLocked k || locked then some .locked
  else if !inRange then some .range
  else none

/-- A refusal: nothing more happens (R167). -/
def State.refuse (s : State) (r : Reason) : Served := (s, fun _ => .refused r)

/-- A request through its checks, and the service of the block that owns it (R168). -/
def State.checked (s : State) (k : Kind) (p : Port) (sized locked inRange : Bool) (own : State → Served) : Served :=
  match s.earlyRefusal k p sized with
  | some r => s.refuse r
  | none =>
    let t := s.chatterTest k p
    if t.2 then
      match t.1.lateRefusal k p locked inRange with
      | some r => t.1.refuse r
      | none => own t.1
    else t.1.refuse .muted

/-- The end of a request: the step settles and the confirmation is placed on the port's outbound line (R160). -/
def Served.finish (r : Served) (kind : Nat) (p : Port) : State :=
  r.1.settle.confirm p ⟨kind, r.2 r.1.settle⟩

/-- A request as one step. While the RESET pin is low its frame is discarded without a confirmation (R184). -/
def request (k : Kind) (p : Port) (sized locked inRange : Bool) (own : State → Served) (s : State) :
    Host.Outcome State Fault Refusal :=
  if s.resetPinLow then .next s
  else .next (Served.finish (s.checked k p sized locked inRange own) k.code p)

/-- An event of the engine as one step. While the RESET pin is low no timer runs and nothing happens (R184). -/
def event (f : State → State) (s : State) : Host.Outcome State Fault Refusal :=
  if s.resetPinLow then .next s else .next (f s).settle

end Sys2Proof.Machine
end

