-- ==== Sys2Proof/Machine/Link.lean ====
section
/-! DEFINITION. The engine-wide effects of the link port's closing and opening, and of a neighbour's going DOWN or leaving the
neighbour table (07 R137, R139, R141, R143; 06 R128, R129). -/

namespace Sys2Proof.Machine

/-- A link port closure: island operation begins (R141, R128). The detail of LINK_CLOSED is the kind of the closing request
(R173, R191). -/
def State.closeLink (s : State) (cause : Kind) : State :=
  let s := { s with neighbours := s.neighbours.map (Option.map (fun (n : Neighbour) => { n with link := .down })) }
  let s := (s.failAsked (fun _ => true) true).withdrawTargets (fun _ => true)
  let s := s.modifyLink (fun p => { p with isOpen := false, queue := [], refreshOwed := false })
  let s := { s with interest := s.interest.closed }
  s.raiseAlarm .linkClosed cause.code

/-- A link port opening: a REFRESH is owed and the map is announced again (R143, R129). -/
def State.openLink (s : State) : State :=
  let s := s.modifyLink (fun p => { p with isOpen := true, refreshOwed := true })
  { s with interest := s.interest.opened }

/-- A neighbour's link state goes to DOWN by LINK STATUS (R139). -/
def State.neighbourDown (s : State) (site : Nat) : State :=
  let s := (s.failAsked (fun t => t == site) true).withdrawTargets (fun t => t == site)
  s.raiseAlarm .neighbourDown site

/-- A site leaves the neighbour table (R137): the entries first, so that no failure finds one to give a cooldown. -/
def State.removeSite (s : State) (site : Nat) : State :=
  let s := s.mapRecords (fun r => { r with neighbours := r.neighbours.filter (fun e => e.site != site) })
  (s.withdrawTargets (fun t => t == site)).failAsked (fun t => t == site) false

/-- How many records hold an entry for a site (R135). -/
def State.countEntries (s : State) (site : Nat) : Nat :=
  s.visitors.records.toList.countP (fun r => r.any (fun x => x.neighbours.any (fun e => e.site == site)))

end Sys2Proof.Machine
end

