-- ==== Sys2Proof/Machine/Ports.lean ====
section
/-! DEFINITION. The requests of the port unit: FETCH (09 R174), OPEN (R162), CLOSE (R163), FORCE CLOSE (R164), UNMUTE (R165), and
the clocking out of a confirmation (R160). -/

namespace Sys2Proof.Machine

/-- A request that only a channel port's role admits. On the other ports the check of the role has refused it already. -/
def onChannel (p : Port) (s : State) (own : Fin 4 → Served) : Served :=
  match p with
  | .channel c => own c
  | .link => s.refuse .role
  | .maintenance => s.refuse .role

/-! ## FETCH -/

/-- The notices of a port's queue, oldest first. -/
def State.notices (s : State) : Port → List Notice
  | .maintenance => s.ports.maintenance.alarms.map Notice.alarm
  | .link => s.ports.link.queue.map (fun q => Notice.link q.notice)
  | .channel c => s.ports.channels[c].queue.map Notice.channel

/-- The first n notices of a port's queue removed (R174). -/
def State.dropNotices (s : State) (n : Nat) : Port → State
  | .maintenance => s.modifyMaintenance (fun p => { p with alarms := p.alarms.drop n })
  | .link => s.modifyLink (fun p => { p with queue := p.queue.drop n })
  | .channel c => s.modifyChannel c (fun p => { p with queue := p.queue.drop n })

/-- The MOVE attempts that room on a channel port lets go; on the link port the arbiter serves the room when the step settles. -/
def State.serveRoom (s : State) : Port → State
  | .maintenance => s
  | .link => s
  | .channel c => s.roomMade c

/-- FETCH as the port unit serves it (R174). The room a FETCH makes is that of at least one notice (R103). -/
def fetchService (p : Port) (count : Nat) (s : State) : Served :=
  let n := clamp 1 8 count
  let taken := (s.notices p).take n
  let left := ((s.notices p).drop n).length
  let rest := s.dropNotices n p
  (if taken.isEmpty then rest else rest.serveRoom p,
    fun _ => .done (n != count) none (.fetched taken left))

def execFetch (p : Port) (count : Nat) (s : State) : Host.Outcome State Fault Refusal :=
  request .fetch p true false true (fetchService p count) s

/-! ## OPEN -/

/-- OPEN on the link port: from CLOSED an opening; on the OPEN port a closure followed by an opening (R143, R162). -/
def openLinkService (s : State) : Served :=
  if s.ports.link.isOpen then
    ((s.closeLink .openPort).openLink, fun _ => .done false none (.opened .opened (some s.ports.link.queue.length)))
  else (s.openLink, fun _ => .done false none (.opened .closed none))

/-- OPEN on a channel port (R162); the MOVE attempts of R103 follow. A MUTED port was refused by the order of checks. -/
def openChannelService (c : Fin 4) (s : State) : Served :=
  match s.ports.channels[c].state with
  | .closed =>
    ((s.modifyChannel c (fun p => { p with state := .opened, chatter := 0 })).roomMade c,
      fun _ => .done false none (.opened .closed none))
  | .opened =>
    ((s.modifyChannel c (fun p => { p with queue := [] })).roomMade c,
      fun _ => .done false none (.opened .opened (some s.ports.channels[c].queue.length)))
  | .muted => s.refuse .muted

def openService (p : Port) (s : State) : Served :=
  match p with
  | .maintenance => s.refuse .role
  | .link => openLinkService s
  | .channel c => openChannelService c s

def execOpen (p : Port) (s : State) : Host.Outcome State Fault Refusal :=
  request .openPort p true false true (openService p) s

/-! ## CLOSE and FORCE CLOSE -/

/-- A port closed, with the reply of the request that closes it (R163, R164). -/
def closePort (p : Port) (cause : Kind) (s : State) : Served :=
  match p with
  | .maintenance => s.refuse .role
  | .link =>
    (s.closeLink cause, fun _ => .done false none (.closed (s.portState .link) s.ports.link.queue.length))
  | .channel c =>
    (s.modifyChannel c (fun ch => { ch with state := .closed, queue := [] }),
      fun _ => .done false none (.closed s.ports.channels[c].state s.ports.channels[c].queue.length))

def execClose (p : Port) (s : State) : Host.Outcome State Fault Refusal :=
  request .closePort p true false true (closePort p .closePort) s

/-- The port that a FORCE CLOSE names: 1 the link port, 2 to 5 the channel ports; 0 and above 5 are out of range (R164). -/
def closablePort (n : Nat) : Option Port :=
  if n = 1 then some .link else (channelOfNumber (n - 1)).map Port.channel

/-- FORCE CLOSE acts on the named port exactly as a CLOSE taken there (R164). -/
def forceCloseService (n : Nat) (s : State) : Served :=
  match closablePort n with
  | some q => closePort q .forceClose s
  | none => s.refuse .range

def execForceClose (p : Port) (n : Nat) (s : State) : Host.Outcome State Fault Refusal :=
  request .forceClose p true false (closablePort n).isSome (forceCloseService n) s

/-! ## UNMUTE -/

/-- A channel port as UNMUTE leaves it (R165). -/
def ChannelPort.unmuted (c : ChannelPort) : ChannelPort :=
  match c.state with
  | .muted => { c with state := .opened, chatter := 0 }
  | .opened => { c with chatter := 0 }
  | .closed => c

def unmuteService (n : Nat) (s : State) : Served :=
  match channelOfNumber n with
  | some c =>
    (s.modifyChannel c ChannelPort.unmuted,
      fun _ => .done false none (.unmuted s.ports.channels[c].state s.ports.channels[c].chatter))
  | none => s.refuse .range

def execUnmute (p : Port) (n : Nat) (s : State) : Host.Outcome State Fault Refusal :=
  request .unmute p true false (channelOfNumber n).isSome (unmuteService n) s

/-! ## The outbound line -/

/-- A port's station has clocked out the confirmation at the head of its outbound line (R160). -/
def execConfirmationClockedOut (p : Port) (s : State) : Host.Outcome State Fault Refusal :=
  event (fun s => s.setOutbound (s.outbound p).tail p) s

end Sys2Proof.Machine
end

