-- ==== Sys2Proof/Machine/Scoring.lean ====
section
/-! DEFINITION. The scoring unit's requests (chapter 02): MEASURE, LOAD LEVEL TABLE, LOAD ERROR TABLE, and the reactivation of a
LOST record by a heard arrival (03 R56). -/

namespace Sys2Proof.Machine

/-- A measurement scored by the tables and the selected profile as they stand (R33, R35). -/
def State.scored (s : State) (attenuation grade : Nat) : Scored :=
  s.scoring.score s.selected.smoothing attenuation grade

/-- The estimate after a sample, and the weight reported (R37, R38). -/
def Scored.into (c : Scored) : Option Nat → Nat × Nat
  | none => (16 * c.sample, 16)
  | some e => (smoothed e c.sample c.weight, c.weight)

/-! ## Reactivation (R56) -/

/-- A LOST record becomes ACTIVE; a record in another state is left alone. Its talkgroups are counted, less those that cannot be
mapped. -/
def State.reactivate (s : State) (i : Index) (r : Record) : State :=
  if r.state = .lost then
    let t := s.countTalkgroups r.unit r.talkgroups
    t.1.modifyRecord i (fun r => { r with state := .active, history := allHeard, talkgroups := t.2 })
  else s

/-! ## MEASURE -/

/-- What became of a DOWNLINK sample (R41 to R43). -/
structure Routed where
  entries : List NeighbourEntry
  estimate : Nat
  weight : Nat
  displaced : Option Nat
deriving DecidableEq, Repr

/-- The entry a sample may displace: the lowest estimate, and the higher site number among equals (R43). -/
def weakest : List NeighbourEntry → Option NeighbourEntry
  | [] => none
  | e :: rest =>
    match weakest rest with
    | none => some e
    | some f => if e.estimate < f.estimate ∨ (e.estimate = f.estimate ∧ f.site < e.site) then some e else some f

/-- A new neighbour entry (R42, R43), late when the record has a transaction towards its site (log entry 24). -/
def NeighbourEntry.fresh (site sample : Nat) (late : Bool) : NeighbourEntry := ⟨site, 16 * sample, 0, 0, 0, late⟩

/-- An applicable DOWNLINK sample routed to the record's entries; none when it is discarded (R41 to R43). -/
def routeDownlink (entries : List NeighbourEntry) (site : Nat) (c : Scored) (late : Bool) : Option Routed :=
  match entries.find? (fun e => e.site == site) with
  | some e =>
    let n := smoothed e.estimate c.sample c.weight
    some ⟨entries.map (fun f => if f.site = site then { f with estimate := n, age := 0 } else f), n, c.weight, none⟩
  | none =>
    if entries.length < Config.neighbourEntries then
      some ⟨entries ++ [.fresh site c.sample late], 16 * c.sample, 16, none⟩
    else
      match weakest entries with
      | none => none
      | some w =>
        if w.estimate < 16 * c.sample then
          some ⟨entries.map (fun f => if f.site = w.site then .fresh site c.sample late else f), 16 * c.sample, 16, some w.site⟩
        else none

/-- A sample written into the record, and the reply (R40 to R44). -/
def applySample (s : State) (i : Index) (r : Record) (f : MeasureFields) : Served :=
  let c := s.scored f.attenuation f.grade
  if f.source = 0 then
    let e := c.into r.home
    (s.modifyRecord i (fun r => { r with home := some e.1 }),
      fun _ => .done c.adjusted (some .applied) (.measured c.sample e.2 (some .home) (some e.1) none))
  else
    let discarded : Served := (s, fun _ => .done c.adjusted (some .discarded) (.measured c.sample c.weight none none none))
    if f.site = s.protection.site ∨ (s.neighbour? f.site).isNone then discarded
    else
      match routeDownlink r.neighbours f.site c (s.targetOf? r == some f.site) with
      | none => discarded
      | some t =>
        (s.modifyRecord i (fun r => { r with neighbours := t.entries }),
          fun _ => .done c.adjusted (some .applied)
            (.measured c.sample t.weight (some (.site f.site)) (some t.estimate) t.displaced))

/-- MEASURE on a channel port (R26, R27). -/
def measureService (f : MeasureFields) (s : State) : Served :=
  match s.find f.unit with
  | none => s.refuse .unknown
  | some (i, r) => applySample ((s.markHeard i).reactivate i r) i r f

/-- The RANGE test of MEASURE (R25). With UPLINK the site is not checked (R188). -/
def MeasureFields.inRange (f : MeasureFields) : Bool :=
  unitInRange f.unit && (f.source == 0 || (f.source == 1 && siteInRange f.site))

def execMeasure (p : Port) (f : MeasureFields) (s : State) : Host.Outcome State Fault Refusal :=
  request .measure p true false (MeasureFields.inRange f) (fun s => onChannel p s (fun _ => measureService f s)) s

/-! ## The table loads (R32) -/

/-- A run of entries written into consecutive places from a start index. -/
def writeRun {α : Type} {n : Nat} (v : Vector α n) (start : Nat) (run : List α) : Vector α n :=
  Vector.ofFn (fun i => if start ≤ i.val then (run[i.val - start]?).getD v[i] else v[i])

/-- The RANGE test of a load: 1 to 8 entries, none past the last one (R32). -/
def loadInRange (size start count : Nat) : Bool :=
  decide (1 ≤ count ∧ count ≤ 8 ∧ start + count ≤ size)

/-- A level table entry as stored (R32). -/
def levelStored (e : Nat × Nat) : LevelEntry := ⟨clamp 0 255 e.1, clamp 1 16 e.2⟩

def loadLevelsService (start : Nat) (entries : List (Nat × Nat)) (s : State) : Served :=
  let stored := entries.map levelStored
  ({ s with scoring := { s.scoring with levels := writeRun s.scoring.levels start stored } },
    fun _ => .done (entries.any (fun e => levelStored e != ⟨e.1, e.2⟩)) none (.levelsStored stored))

def execLoadLevelTable (p : Port) (start : Nat) (entries : List (Nat × Nat)) (s : State) :
    Host.Outcome State Fault Refusal :=
  request .loadLevelTable p true false (loadInRange Config.levels start entries.length) (loadLevelsService start entries) s

def loadErrorsService (start : Nat) (entries : List Nat) (s : State) : Served :=
  let stored := entries.map (clamp 0 255)
  ({ s with scoring := { s.scoring with penalties := writeRun s.scoring.penalties start stored } },
    fun _ => .done (entries.any (fun e => clamp 0 255 e != e)) none (.penaltiesStored stored))

def execLoadErrorTable (p : Port) (start : Nat) (entries : List Nat) (s : State) : Host.Outcome State Fault Refusal :=
  request .loadErrorTable p true false (loadInRange Config.grades start entries.length) (loadErrorsService start entries) s

end Sys2Proof.Machine
end

