-- ==== Sys2Proof/Machine/Registration.lean ====
section
/-! DEFINITION. The registration unit's requests (chapter 03): REGISTER, DEREGISTER, CALL START, CALL END, CLAIM IN. -/

namespace Sys2Proof.Machine

/-- A value read from a record, or a default where the record is FREE. -/
def State.readRecord {α : Type} (s : State) (i : Index) (f : Record → α) (default : α) : α :=
  ((s.record? i).map f).getD default

/-! ## REGISTER -/

/-- The class stored, and a queued record moved to the tail of its new class's queue (R49). -/
def State.changeClass (s : State) (i : Index) (cls : RadioClass) : State :=
  match s.record? i with
  | none => s
  | some r =>
    let t := s.modifyRecord i (fun r => { r with cls := cls })
    if r.queued ∧ r.cls ≠ cls then { t with handover := (s.handover.dequeue i).enqueue cls i } else t

/-- The talkgroup list and the counts of a done REGISTER, against the old counted list (R48). -/
def State.setTalkgroups (s : State) (i : Index) (unit : Nat) (old requested : List Nat) : State :=
  let s := s.uncountTalkgroups (old.filter (fun tg => !requested.contains tg))
  let t := s.countTalkgroups unit (requested.filter (fun tg => !old.contains tg))
  t.1.modifyRecord i (fun r =>
    { r with talkgroups := requested.filter (fun tg => old.contains tg || t.2.contains tg) })

/-- Whether the record is TRANSIT in a slot that is HELD (R103). -/
def State.heldSlot? (s : State) (i : Index) : Option (Fin 8) :=
  (s.record? i).bind (fun r => r.slot.bind (fun k =>
    s.handover.slots[k].transaction.bind (fun t =>
      match t.phase with
      | .held _ => some k
      | .asked => none
      | .ordered => none)))

/-- A REGISTER that refreshes a HELD record makes a MOVE attempt (R103). -/
def State.refreshHeld (s : State) (i : Index) : State :=
  match s.heldSlot? i with
  | some k => (s.moveAttempt k).1
  | none => s

/-- The uplink sample of a REGISTER written into the home estimate (R36). -/
def State.applyUplink (s : State) (i : Index) (c : Scored) : State :=
  s.modifyRecord i (fun r => { r with home := some (c.into r.home).1 })

/-- What every done REGISTER does, and its reply (R49). `old` is the old counted list (R48). -/
def State.accept (s : State) (c : Fin 4) (f : RegisterFields) (i : Index) (old : List Nat) (claim : Bool)
    (registration : Registration) (cancel : Option Fate) : Served :=
  let cls := (RadioClass.ofCode f.cls).getD .general
  let sample := s.scored f.attenuation f.grade
  let weight := s.readRecord i (fun r => (sample.into r.home).2) 16
  let s := (s.changeClass i cls).modifyRecord i (fun r => { r with serving := some c })
  let s := ((s.applyUplink i sample).markHeard i).setTalkgroups i f.unit old (requestedList f.talkgroups)
  let s := (if claim then s.oweClaim i f.fresh else s).refreshHeld i
  (s, fun t => .done (sample.adjusted || listReduced f.talkgroups) (some .applied) (.registered
    { registration := registration
      index := i
      seq := t.readRecord i Record.seq f.seq
      grant := t.readRecord i Record.talkgroups []
      claimPending := t.readRecord i Record.claimPending false
      sample := sample.sample
      weight := weight
      home := t.readRecord i (fun r => r.home.getD 0) 0
      cancel := cancel }))

/-- REGISTER of a radio that no record holds (R50). -/
def registerNew (c : Fin 4) (f : RegisterFields) (s : State) : Served :=
  match s.allocate f.unit ((RadioClass.ofCode f.cls).getD .general) f.seq .active with
  | none => (s.raiseAlarm .tableFull f.unit).refuse .full
  | some (t, i) => t.accept c f i [] true .new none

/-- REGISTER of an EXPECTED record (R51). -/
def registerExpected (c : Fin 4) (f : RegisterFields) (i : Index) (s : State) : Served :=
  (s.modifyRecord i (fun r => { r with state := .active, seq := f.seq, origin := none })).accept c f i [] true .arrived none

/-- The request's sequence stored. -/
def State.storeSeq (s : State) (i : Index) (seq : Nat) : State := s.modifyRecord i (fun r => { r with seq := seq })

/-- REGISTER of an ACTIVE record (R52, R53). -/
def registerActive (c : Fin 4) (f : RegisterFields) (i : Index) (r : Record) (s : State) : Served :=
  match relation r.seq f.seq f.fresh with
  | .equal => s.accept c f i r.talkgroups false .refreshed none
  | .newer => (s.storeSeq i f.seq).accept c f i r.talkgroups true .renewed none
  | .notNewer => (s, fun _ => .stale r.seq)

/-- The transaction of a record superseded by a newer REGISTER (R110). -/
def State.supersede (s : State) (r : Record) : State × Option Fate :=
  match r.slot with
  | some k => s.failWithCancel k false
  | none => (s, none)

/-- REGISTER of a TRANSIT record (R53, R54). -/
def registerTransit (c : Fin 4) (f : RegisterFields) (i : Index) (r : Record) (s : State) : Served :=
  match relation r.seq f.seq f.fresh with
  | .equal => s.accept c f i r.talkgroups false .refreshed none
  | .newer =>
    let t := s.supersede r
    (t.1.storeSeq i f.seq).accept c f i r.talkgroups true .superseded t.2
  | .notNewer => (s, fun _ => .stale r.seq)

/-- REGISTER of a LOST record (R55, R56). -/
def registerLost (c : Fin 4) (f : RegisterFields) (i : Index) (r : Record) (s : State) : Served :=
  (s.modifyRecord i (fun r => { r with state := .active, history := allHeard, seq := f.seq })).accept c f i []
    (relation r.seq f.seq f.fresh == .newer) .reactivated none

def registerService (f : RegisterFields) (s : State) (c : Fin 4) : Served :=
  match s.find f.unit with
  | none => registerNew c f s
  | some (i, r) =>
    match r.state with
    | .expected => registerExpected c f i s
    | .active => registerActive c f i r s
    | .transit => registerTransit c f i r s
    | .lost => registerLost c f i r s

/-- The RANGE test of REGISTER (R46). -/
def RegisterFields.inRange (f : RegisterFields) : Bool :=
  unitInRange f.unit && (RadioClass.ofCode f.cls).isSome && fitsSequence f.seq

/-- A talkgroup count above 15 is refused FORMAT (R188). -/
def countFits (tgs : List Nat) : Bool := decide (tgs.length ≤ Config.maxTalkgroupCount)

def execRegister (p : Port) (f : RegisterFields) (s : State) : Host.Outcome State Fault Refusal :=
  request .register p (countFits f.talkgroups) false (RegisterFields.inRange f)
    (fun s => onChannel p s (registerService f s)) s

/-! ## DEREGISTER -/

/-- The CANCEL of a TRANSIT record's transaction offered (R18, R57). -/
def State.offerRecordCancel (s : State) (r : Record) : State × Option Fate :=
  match r.slot with
  | some k => s.offerCancel k
  | none => (s, none)

def deregisterService (unit : Nat) (s : State) : Served :=
  match s.find unit with
  | none => s.refuse .unknown
  | some (i, r) =>
    let t := s.offerRecordCancel r
    (t.1.release i, fun _ => .done false none (.deregistered r.state t.2))

def execDeregister (p : Port) (unit : Nat) (s : State) : Host.Outcome State Fault Refusal :=
  request .deregister p true false (unitInRange unit) (fun s => onChannel p s (fun _ => deregisterService unit s)) s

/-! ## Calls -/

/-- What CALL START and CALL END do to the record: in call set or cleared, heard, reactivated (R58, R59). -/
def State.markCall (s : State) (i : Index) (r : Record) (inCall : Bool) : State :=
  ((s.modifyRecord i (fun r => { r with inCall := inCall })).markHeard i).reactivate i r

def callStartService (unit : Nat) (s : State) : Served :=
  match s.find unit with
  | none => s.refuse .unknown
  | some (i, r) =>
    (s.markCall i r true, fun t => .done false none (.callStarted (t.readRecord i Record.state r.state)))

def execCallStart (p : Port) (unit : Nat) (s : State) : Host.Outcome State Fault Refusal :=
  request .callStart p true false (unitInRange unit) (fun s => onChannel p s (fun _ => callStartService unit s)) s

/-- The slot of a record HELD with reason CALL (R102). -/
def State.heldForCall? (s : State) (r : Record) : Option (Fin 8) :=
  r.slot.bind (fun k =>
    if s.handover.slots[k].transaction.any (fun t => t.phase == .held .call) then some k else none)

/-- The CANCEL that a MOVE attempt caused, if it abandoned the transaction (R99). -/
def AnswerResult.cancel? : AnswerResult → Option Fate
  | .abandoned fate => some fate
  | .ended => none
  | .held _ => none
  | .ordered => none

/-- A CALL END passed to the handover unit: a hold with reason CALL makes its MOVE attempt (R59, R102). -/
def State.callEnded (s : State) (r : Record) : State × Option Fate :=
  match s.heldForCall? r with
  | some k => ((s.moveAttempt k).1, (s.moveAttempt k).2.cancel?)
  | none => (s, none)

def callEndService (unit : Nat) (s : State) : Served :=
  match s.find unit with
  | none => s.refuse .unknown
  | some (i, r) =>
    let t := (s.markCall i r false).callEnded r
    (t.1, fun _ => .done false none (.callEnded t.2))

def execCallEnd (p : Port) (unit : Nat) (s : State) : Host.Outcome State Fault Refusal :=
  request .callEnd p true false (unitInRange unit) (fun s => onChannel p s (fun _ => callEndService unit s)) s

/-! ## CLAIM IN -/

/-- Whether a record yields to a claim (R61 to R63). The target site of a TRANSIT record is read from its slot. -/
def State.yields (s : State) (r : Record) (f : ClaimFields) : Bool :=
  let newer := relation r.seq f.seq f.fresh == .newer
  match r.state with
  | .expected => true
  | .lost => true
  | .active => newer
  | .transit =>
    newer || r.slot.any (fun k => s.handover.slots[k].transaction.any (fun t => t.target == f.site))

/-- The COUNTERCLAIM of a kept record (R64). -/
def counterclaimNotice (site : Nat) (r : Record) (f : ClaimFields) : LinkNotice := .counterclaim r.unit site r.seq f.site

def claimInService (f : ClaimFields) (s : State) : Served :=
  match s.find f.unit with
  | none => (s, fun _ => .done false (some .none) (.claimSettled none none none))
  | some (i, r) =>
    if s.yields r f then (s.release i, fun _ => .done false (some .yielded) (.claimSettled (some r.state) none none))
    else
      let t := s.offer (counterclaimNotice s.protection.site r f)
      (t.1, fun _ => .done false (some .kept) (.claimSettled (some r.state) (some r.seq) (some t.2)))

/-- The RANGE test of CLAIM IN (R60). -/
def ClaimFields.inRange (f : ClaimFields) (own : Nat) : Bool :=
  unitInRange f.unit && siteInRange f.site && f.site != own && fitsSequence f.seq

def execClaimIn (p : Port) (f : ClaimFields) (s : State) : Host.Outcome State Fault Refusal :=
  request .claimIn p true false (ClaimFields.inRange f s.protection.site) (claimInService f) s

end Sys2Proof.Machine
end

