-- ==== Sys2Proof/Machine/Handover.lean ====
section
/-! DEFINITION. The handover unit's requests and expiries (chapter 05): ASK IN, ANSWER, and the answer, hold and claim timers. -/

namespace Sys2Proof.Machine

/-! ## ASK IN -/

/-- An EXPECTED record as an ask makes or renews it (R115 to R117): the ask's data, the list not counted, state age 0. -/
def Record.asked (r : Record) (f : AskFields) : Record :=
  { r with
    state := .expected
    cls := (RadioClass.ofCode f.cls).getD .general
    seq := f.seq
    talkgroups := requestedList f.talkgroups
    origin := some f.origin
    serving := none
    stateAge := 0 }

/-- ASK IN of a radio that no record holds (R115). -/
def askNew (f : AskFields) (s : State) : Served :=
  match s.allocate f.unit ((RadioClass.ofCode f.cls).getD .general) f.seq .expected with
  | none =>
    (s.raiseAlarm .tableFull f.unit, fun _ => .done (listReduced f.talkgroups) none (.asked .refuseFull none none none))
  | some (t, i) =>
    (t.modifyRecord i (fun r => r.asked f),
      fun _ => .done (listReduced f.talkgroups) none (.asked .accept (some i) none none))

/-- ASK IN of a LOST record: it becomes EXPECTED, leaves the pending-claims list and moves to the age-list tail (R117). -/
def State.askLost (s : State) (f : AskFields) (i : Index) : State :=
  ((s.modifyRecord i (fun r => r.asked f)).dropClaim i).toTail i

def askInService (f : AskFields) (s : State) : Served :=
  match s.find f.unit with
  | none => askNew f s
  | some (i, r) =>
    let accept : Reply := .done (listReduced f.talkgroups) none (.asked .accept (some i) (some r.state) none)
    let present : Reply := .done (listReduced f.talkgroups) none (.asked .refusePresent none (some r.state) (some r.seq))
    match r.state with
    | .expected => (s.modifyRecord i (fun r => r.asked f), fun _ => accept)
    | .lost => (s.askLost f i, fun _ => accept)
    | .active => (s, fun _ => present)
    | .transit => (s, fun _ => present)

/-- The RANGE test of ASK IN (R114). -/
def AskFields.inRange (f : AskFields) (own : Nat) : Bool :=
  unitInRange f.unit && siteInRange f.origin && f.origin != own && (RadioClass.ofCode f.cls).isSome && fitsSequence f.seq

def execAskIn (p : Port) (f : AskFields) (s : State) : Host.Outcome State Fault Refusal :=
  request .askIn p (countFits f.talkgroups) false (AskFields.inRange f s.protection.site) (askInService f) s

/-! ## ANSWER -/

/-- Whether an ANSWER belongs to the transaction of a slot in ASKED (R96). -/
def State.answerMatches (s : State) (k : Fin 8) (f : AnswerFields) : Bool :=
  s.handover.slots[k].generation == f.generation
    && s.handover.slots[k].transaction.any (fun t =>
      t.phase == .asked && t.target == f.site && (s.record? t.record).any (fun r => r.unit == f.unit))

def answerService (f : AnswerFields) (s : State) : Served :=
  match slotOfNumber 8 f.slot with
  | none => s.refuse .range
  | some k =>
    if s.answerMatches k f then
      if f.answer = 0 then ((s.moveAttempt k).1, fun _ => .done false none (.answered (s.moveAttempt k).2))
      else (s.failTransaction k true, fun _ => .done false none (.answered .ended))
    else s.refuse .unknown

/-- The RANGE test of ANSWER (R96). -/
def AnswerFields.inRange (f : AnswerFields) : Bool :=
  decide (f.slot ≤ 7) && fitsSequence f.generation && unitInRange f.unit && siteInRange f.site && decide (f.answer ≤ 1)

def execAnswer (p : Port) (f : AnswerFields) (s : State) : Host.Outcome State Fault Refusal :=
  request .answer p true false (AnswerFields.inRange f) (answerService f) s

/-! ## The transaction timers -/

/-- The phase of a slot, none when it is FREE. -/
def State.phase? (s : State) (k : Fin 8) : Option Phase := s.handover.slots[k].transaction.map Transaction.phase

/-- The answer timer of a slot expires: in ASKED the transaction fails with a CANCEL; otherwise no such timer runs (R100). -/
def State.answerExpiry (s : State) (k : Fin 8) : State :=
  if s.phase? k = some .asked then (s.failWithCancel k true).1 else s

def execAnswerTimerExpiry (k : Fin 8) (s : State) : Host.Outcome State Fault Refusal :=
  event (fun s => s.answerExpiry k) s

/-- The hold timer of a slot expires: in HELD, whatever the reason, the transaction fails with a CANCEL (R104). -/
def State.holdExpiry (s : State) (k : Fin 8) : State :=
  if s.phase? k = some (.held .call) ∨ s.phase? k = some (.held .room) then (s.failWithCancel k true).1 else s

def execHoldTimerExpiry (k : Fin 8) (s : State) : Host.Outcome State Fault Refusal :=
  event (fun s => s.holdExpiry k) s

/-- The claim timer of a slot expires: in ORDERED the transaction fails with a CANCEL (R107). -/
def State.claimExpiry (s : State) (k : Fin 8) : State :=
  if s.phase? k = some .ordered then (s.failWithCancel k true).1 else s

def execClaimTimerExpiry (k : Fin 8) (s : State) : Host.Outcome State Fault Refusal :=
  event (fun s => s.claimExpiry k) s

end Sys2Proof.Machine
end

