-- ==== Sys2Proof/Machine/Sweep.lean ====
section
/-! DEFINITION. The sweep unit (chapter 04): the sweep timer's expiry, and the visit of one record. -/

namespace Sys2Proof.Machine

/-! ## The sweep timer (R68, R69) -/

/-- The timer reloads; a sweep starts, or the sweep-due mark is set (R68, R69). -/
def State.sweepExpiry (s : State) : State :=
  let s := { s with sweep := { s.sweep with timer := Timer.load s.selected.sweepPeriod } }
  if s.sweep.inFlight then { s with sweep := { s.sweep with due := true } } else s.startSweep

def execSweepTimerExpiry (s : State) : Host.Outcome State Fault Refusal := event State.sweepExpiry s

/-! ## The steps of a visit -/

/-- The heard history with a newest entry shifted in and the oldest dropped (R78). -/
def shiftHistory (h : Vector Bool 8) (newest : Bool) : Vector Bool 8 :=
  #v[newest, h[0], h[1], h[2], h[3], h[4], h[5], h[6]]

/-- Steps 1 and 2 of R78: history shifted, heard mark cleared, in call cleared when the newest entry is not heard. -/
def Record.shifted (r : Record) : Record :=
  { r with history := shiftHistory r.history r.heard, heard := false, inCall := r.inCall && r.heard }

/-- None of the newest n entries of the history is heard (R79, R80). -/
def Record.silent (r : Record) (n : Nat) : Bool := (r.history.toList.take n).all (fun h => !h)

/-- One neighbour entry aged by a visit (R81); none when it outlives the estimate life. -/
def NeighbourEntry.aged (e : NeighbourEntry) (life : Nat) : Option NeighbourEntry :=
  let age := min 255 (e.age + 1)
  if life < age then none else some { e with age := age, cooldown := e.cooldown - 1 }

/-- The fifth step of a visit (R81). -/
def Record.agedEntries (r : Record) (life : Nat) : Record :=
  { r with neighbours := r.neighbours.filterMap (fun e => e.aged life) }

/-! ## The decision (R83 to R86) -/

/-- Rescue: the floor is not 0 and the home estimate is below 16 times it (R83). -/
def Record.rescue (r : Record) (p : Snapshot) : Bool :=
  p.rescueFloor != 0 && decide (r.home.getD 0 < 16 * p.rescueFloor)

/-- The effective score of an entry with the bias of its site, clamped to 0 to 4080 (R83). -/
def NeighbourEntry.effective (e : NeighbourEntry) (bias : Int) : Nat :=
  (max 0 (min 4080 ((e.estimate : Int) + 16 * bias))).toNat

/-- The effective score of a candidate entry, none for an entry that is no candidate (R83). -/
def State.candidate (s : State) (rescue : Bool) (e : NeighbourEntry) : Option Nat :=
  match s.neighbour? e.site with
  | none => none
  | some n =>
    if e.cooldown = 0 ∧ (n.link = .up ∨ (n.link = .fading ∧ rescue)) then some (e.effective n.bias) else none

/-- The best candidate: site and effective score; the greatest score, and the lower site number among equals (R83). -/
def State.best (s : State) (rescue : Bool) : List NeighbourEntry → Option (Nat × Nat)
  | [] => none
  | e :: rest =>
    match s.candidate rescue e, s.best rescue rest with
    | none, b => b
    | some v, none => some (e.site, v)
    | some v, some (site, w) => if w < v ∨ (w = v ∧ e.site < site) then some (e.site, v) else some (site, w)

/-- The site of the best candidate when it beats home: E at least T = S + 16 m (R83). -/
def State.winner (s : State) (p : Snapshot) (r : Record) : Option Nat :=
  match s.best (r.rescue p) r.neighbours with
  | some (site, v) => if r.home.getD 0 + 16 * p.hysteresis ≤ v then some site else none
  | none => none

/-- The better counts after a decision (R85). -/
def NeighbourEntry.counted (e : NeighbourEntry) (winner : Option Nat) : NeighbourEntry :=
  { e with better := if winner = some e.site then min 15 (e.better + 1) else 0 }

/-- The dwell a decision requires (R86). -/
def Record.requiredDwell (r : Record) (p : Snapshot) : Nat := if r.rescue p then 1 else p.dwell

/-- Whether the decision queues the record for its winner: the better count has reached the dwell (R86). -/
def Record.dwellMet (r : Record) (p : Snapshot) (site : Nat) : Bool :=
  r.neighbours.any (fun e => e.site == site && decide (r.requiredDwell p ≤ e.better))

/-- The decision for one ACTIVE record (R83 to R86): withdrawal, better counts, queuing. -/
def State.decideHandover (s : State) (p : Snapshot) (i : Index) (r : Record) : State :=
  let winner := s.winner p r
  let s := if r.queued ∧ r.target ≠ winner then s.withdraw i else s
  let stays := r.queued && decide (r.target = winner)
  let counted : Record := { r with neighbours := r.neighbours.map (fun e => e.counted winner) }
  let s := s.modifyRecord i (fun x => { x with neighbours := counted.neighbours })
  match winner with
  | none => s
  | some site =>
    if !stays && counted.dwellMet p site then
      { s.modifyRecord i (fun x => { x with queued := true, target := some site }) with
        handover := s.handover.enqueue r.cls i }
    else s

/-! ## Visits by state -/

/-- The fourth step of an ACTIVE visit (R80): a POLL to the serving port, when L is at least 2 and the port takes it. -/
def State.poll (s : State) (p : Snapshot) (r : Record) : State :=
  match r.serving with
  | none => s
  | some c =>
    if 2 ≤ p.lossWindow ∧ r.silent (p.lossWindow - 1) ∧ s.ports.channels[c].state ≠ .closed
        ∧ s.ports.channels[c].queue.length < Config.channelQueue then
      s.postChannel c (.poll r.unit)
    else s

/-- An ACTIVE record goes LOST (R79). -/
def State.lose (s : State) (i : Index) (r : Record) : State :=
  ((s.modifyRecord i (fun r => { r with state := .lost, stateAge := 0 })).uncountTalkgroups r.talkgroups).withdraw i

/-- The visit of an ACTIVE record (R78 to R86). -/
def State.visitActive (s : State) (p : Snapshot) (i : Index) (r : Record) : State :=
  let r1 := r.shifted
  let s := s.modifyRecord i Record.shifted
  if r1.silent p.lossWindow then s.lose i r1
  else
    let s := s.poll p r1
    let r2 := r1.agedEntries p.estimateLife
    let s := s.modifyRecord i (fun r => r.agedEntries p.estimateLife)
    if r2.inCall then s else s.decideHandover p i r2

/-- The visit of a TRANSIT record (R87). -/
def State.visitTransit (s : State) (p : Snapshot) (i : Index) : State :=
  s.modifyRecord i (fun r => r.shifted.agedEntries p.estimateLife)

/-- The state age counted by a visit (R88, R89). -/
def Record.older (r : Record) : Record := { r with stateAge := min 255 (r.stateAge + 1) }

/-- The visit of a LOST record (R88). -/
def State.visitLost (s : State) (p : Snapshot) (i : Index) (r : Record) : State :=
  let s := s.modifyRecord i (fun r =>
    { r.older with history := shiftHistory r.history r.heard, heard := false })
  if p.lostHold ≤ r.older.stateAge then s.release i else s

/-- The visit of an EXPECTED record (R89). -/
def State.visitExpected (s : State) (p : Snapshot) (i : Index) (r : Record) : State :=
  let s := s.modifyRecord i Record.older
  if p.arrivalTimeout ≤ r.older.stateAge then s.release i else s

/-- The record a visit takes: the unvisited one nearest the head of the age list (R73). -/
def State.nextVisit? (s : State) : Option (Index × Record) :=
  s.visitors.age.findSome? (fun i =>
    (s.record? i).bind (fun r => if r.stamp ≠ s.sweep.parity then some (i, r) else none))

/-- The stamp set to the parity and the record taken out of the unvisited count (R74). -/
def State.stampVisited (s : State) (i : Index) : State :=
  { s.modifyRecord i (fun r => { r with stamp := s.sweep.parity }) with
    sweep := { s.sweep with unvisited := s.sweep.unvisited - 1 } }

/-- One visit of the sweep in flight (R73, R74). With no sweep in flight there is nothing to visit. -/
def State.visitNext (s : State) : State :=
  match s.sweep.inFlight, s.sweep.snapshot, s.nextVisit? with
  | true, some p, some (i, r) =>
    let t := s.stampVisited i
    match r.state with
    | .active => t.visitActive p i r
    | .transit => t.visitTransit p i
    | .lost => t.visitLost p i r
    | .expected => t.visitExpected p i r
  | _, _, _ => s

def execVisit (s : State) : Host.Outcome State Fault Refusal := event State.visitNext s

end Sys2Proof.Machine
end

