-- ==== Sys2Proof/Machine/Neighbours.lean ====
section
/-! DEFINITION. The neighbour table's requests (chapter 07): SET NEIGHBOUR, LINK STATUS. -/

namespace Sys2Proof.Machine

/-! ## SET NEIGHBOUR -/

/-- A bias clamped to -32 to +31 (R135). -/
def clampBias (b : Int) : Int := max (-32) (min 31 b)

/-- The RANGE test of SET NEIGHBOUR (R135). A site of 0 empties the slot and is never out of range. -/
def State.neighbourInRange (s : State) (slot site : Nat) : Bool :=
  decide (slot ≤ 11) && decide (site ≤ Config.maxSite)
    && (site == 0 || (site != s.protection.site
      && (match s.neighbourSlot? site with
        | none => true
        | some k => k.val == slot)))

def State.setNeighbourSlot (s : State) (k : Fin 12) (n : Option Neighbour) : State :=
  { s with neighbours := s.neighbours.set k n }

/-- The slot as SET NEIGHBOUR leaves it (R135, R136). -/
def neighbourAfter (old : Option Neighbour) (site : Nat) (bias : Int) : Option Neighbour :=
  if site = 0 then none
  else
    match old with
    | none => some ⟨site, clampBias bias, .down⟩
    | some n => if n.site = site then some { n with bias := clampBias bias } else some ⟨site, clampBias bias, .down⟩

/-- The site that SET NEIGHBOUR removes: the one the slot held, unless the request names it again (R135, R137). -/
def removedSite (old : Option Neighbour) (site : Nat) : Option Nat :=
  match old with
  | none => none
  | some n => if n.site = site then none else some n.site

def setNeighbourService (slot site : Nat) (bias : Int) (s : State) : Served :=
  match slotOfNumber 12 slot with
  | none => s.refuse .range
  | some k =>
    let old := s.neighbours[k]
    let stored := neighbourAfter old site bias
    let adjusted := site != 0 && decide (clampBias bias ≠ bias)
    match removedSite old site with
    | none =>
      (s.setNeighbourSlot k stored, fun _ => .done adjusted none (.neighbourStored stored (old.map Neighbour.site) none))
    | some gone =>
      ((s.removeSite gone).setNeighbourSlot k stored,
        fun _ => .done adjusted none (.neighbourStored stored (some gone)
          (some (s.countEntries gone, s.countTargets (fun t => t == gone), s.countAsked (fun t => t == gone)))))

def execSetNeighbour (p : Port) (slot site : Nat) (bias : Int) (s : State) : Host.Outcome State Fault Refusal :=
  request .setNeighbour p true false (s.neighbourInRange slot site) (setNeighbourService slot site bias) s

/-! ## LINK STATUS -/

/-- The effects of a LINK STATUS on a slot that holds the site (R138 to R140). Only a change to DOWN does more than set the state. -/
def linkStatusOn (k : Fin 12) (n : Neighbour) (l : LinkState) (s : State) : Served :=
  let t := s.setNeighbourSlot k (some { n with link := l })
  if l = .down ∧ n.link ≠ .down then
    (t.neighbourDown n.site,
      fun _ => .done false none (.linkStatus k n.link
        (some (s.countAsked (fun x => x == n.site), s.countTargets (fun x => x == n.site)))))
  else (t, fun _ => .done false none (.linkStatus k n.link none))

def linkStatusService (site state : Nat) (s : State) : Served :=
  match LinkState.ofCode state with
  | none => s.refuse .range
  | some l =>
    match s.neighbourSlot? site with
    | none => s.refuse .unknown
    | some k =>
      match s.neighbours[k] with
      | none => s.refuse .unknown
      | some n => linkStatusOn k n l s

/-- The RANGE test of LINK STATUS (R138). -/
def linkStatusInRange (own site state : Nat) : Bool :=
  siteInRange site && site != own && (LinkState.ofCode state).isSome

def execLinkStatus (p : Port) (site state : Nat) (s : State) : Host.Outcome State Fault Refusal :=
  request .linkStatus p true false (linkStatusInRange s.protection.site site state) (linkStatusService site state) s

end Sys2Proof.Machine
end

