-- ==== Sys2Proof/Machine/Profiles.lean ====
section
/-! DEFINITION. The profile store's requests (chapter 08): SET PROFILE FIELD, DECLARE INCIDENT, STAND DOWN. -/

namespace Sys2Proof.Machine

/-- The range of the field of a code (R150). -/
def fieldRange : Nat → Nat × Nat
  | 1 => (2, 32)
  | 2 => (1, 16)
  | 3 => (0, 63)
  | 4 => (1, 15)
  | 5 => (0, 255)
  | 6 => (1, 8)
  | 7 => (1, 255)
  | 8 => (1, 63)
  | 9 => (1, 15)
  | 10 => (1, 63)
  | 11 => (2, 100)
  | 12 => (5, 250)
  | 13 => (5, 250)
  | 14 => (1, 255)
  | 15 => (1, 255)
  | _ => (0, 0)

/-- The field of a code (R150). -/
def Profile.field (p : Profile) : Nat → Nat
  | 1 => p.sweepPeriod
  | 2 => p.smoothing
  | 3 => p.hysteresis
  | 4 => p.dwell
  | 5 => p.rescueFloor
  | 6 => p.lossWindow
  | 7 => p.lostHold
  | 8 => p.arrivalTimeout
  | 9 => p.estimateLife
  | 10 => p.refusalCooldown
  | 11 => p.answerTimeout
  | 12 => p.claimTimeout
  | 13 => p.orderHold
  | 14 => p.leaveHold
  | 15 => p.flushTime
  | _ => 0

/-- The field of a code written (R150). -/
def Profile.setField (p : Profile) (v : Nat) : Nat → Profile
  | 1 => { p with sweepPeriod := v }
  | 2 => { p with smoothing := v }
  | 3 => { p with hysteresis := v }
  | 4 => { p with dwell := v }
  | 5 => { p with rescueFloor := v }
  | 6 => { p with lossWindow := v }
  | 7 => { p with lostHold := v }
  | 8 => { p with arrivalTimeout := v }
  | 9 => { p with estimateLife := v }
  | 10 => { p with refusalCooldown := v }
  | 11 => { p with answerTimeout := v }
  | 12 => { p with claimTimeout := v }
  | 13 => { p with orderHold := v }
  | 14 => { p with leaveHold := v }
  | 15 => { p with flushTime := v }
  | _ => p

def ProfileStore.setProfile (t : ProfileStore) (p : Profile) : ProfileName → ProfileStore
  | .normal => { t with normal := p }
  | .incident => { t with incidentProfile := p }

/-- The value a SET PROFILE FIELD stores (R151). -/
def storedField (code value : Nat) : Nat := clamp (fieldRange code).1 (fieldRange code).2 value

def setProfileFieldService (profile code value : Nat) (s : State) : Served :=
  match ProfileName.ofCode profile with
  | none => s.refuse .range
  | some name =>
    let old := s.profiles.profile name
    let v := storedField code value
    ({ s with profiles := s.profiles.setProfile (old.setField v code) name },
      fun _ => .done (v != value) none (.profileField name code v (old.field code) (name == s.profiles.selection)))

/-- The RANGE test of SET PROFILE FIELD (R151). -/
def profileFieldInRange (profile code : Nat) : Bool :=
  (ProfileName.ofCode profile).isSome && decide (1 ≤ code ∧ code ≤ 15)

def execSetProfileField (p : Port) (profile code value : Nat) (s : State) : Host.Outcome State Fault Refusal :=
  request .setProfileField p true false (profileFieldInRange profile code) (setProfileFieldService profile code value) s

/-- The incident flag and the selection written together (R149, R154, R155). -/
def State.setIncident (s : State) (flag : Bool) : State :=
  { s with profiles := { s.profiles with incident := flag, selection := if flag then .incident else .normal } }

/-- The flag and the selection as they stood before the request (R154, R155). -/
def incidentReply (s : State) : Reply := .done false none (.incidentBefore s.profiles.incident s.profiles.selection)

def execDeclareIncident (p : Port) (s : State) : Host.Outcome State Fault Refusal :=
  request .declareIncident p true false true (fun s => (s.setIncident true, fun _ => incidentReply s)) s

def execStandDown (p : Port) (s : State) : Host.Outcome State Fault Refusal :=
  request .standDown p true false true (fun s => (s.setIncident false, fun _ => incidentReply s)) s

end Sys2Proof.Machine
end

