-- ==== Sys2Proof/Machine/Protection.lean ====
section
/-! DEFINITION. Protection, identity and limits (chapter 10): SET SITE, LOCK, UNLOCK, SET INCIDENT LOCKS, SET LIMITS, and the two
read requests, SITE STATUS (R183) and READ RECORD (01 R20 to R22). -/

namespace Sys2Proof.Machine

/-! ## SET SITE (R177) -/

def setSiteService (site : Nat) (s : State) : Served :=
  if s.visitors.age.isEmpty then
    ({ s with protection := { s.protection with site := site } }, fun _ => .done false none (.site s.protection.site site))
  else s.refuse .busy

/-- The RANGE test of SET SITE (R177). -/
def State.siteSettable (s : State) (site : Nat) : Bool := siteInRange site && (s.neighbourSlot? site).isNone

def execSetSite (p : Port) (site : Nat) (s : State) : Host.Outcome State Fault Refusal :=
  request .setSite p true false (s.siteSettable site) (setSiteService site) s

/-! ## Locks (R179 to R181) -/

def LockGroups.or (a b : LockGroups) : LockGroups :=
  ⟨a.tables || b.tables, a.profiles || b.profiles, a.neighbours || b.neighbours, a.limits || b.limits⟩

def LockGroups.without (a b : LockGroups) : LockGroups :=
  ⟨a.tables && !b.tables, a.profiles && !b.profiles, a.neighbours && !b.neighbours, a.limits && !b.limits⟩

def State.setOwnLocks (s : State) (g : LockGroups) : State := { s with protection := { s.protection with own := g } }

def State.setMarks (s : State) (g : LockGroups) : State := { s with protection := { s.protection with marks := g } }

/-- The own locks written, with the reply of LOCK and UNLOCK (R180). -/
def ownLocksService (g : LockGroups) (s : State) : Served :=
  (s.setOwnLocks g, fun _ => .done false none (.locks s.protection.own g (s.setOwnLocks g).effectiveLocks))

def execLock (p : Port) (groups : Byte) (s : State) : Host.Outcome State Fault Refusal :=
  request .lock p true false (!(LockGroups.ofByte groups).isEmpty)
    (fun s => ownLocksService (s.protection.own.or (LockGroups.ofByte groups)) s) s

def execUnlock (p : Port) (groups : Byte) (s : State) : Host.Outcome State Fault Refusal :=
  request .unlock p true false (!(LockGroups.ofByte groups).isEmpty)
    (fun s => ownLocksService (s.protection.own.without (LockGroups.ofByte groups)) s) s

/-- The four marks replaced as a whole (R181). -/
def incidentLocksService (g : LockGroups) (s : State) : Served :=
  (s.setMarks g, fun _ => .done false none (.marks s.protection.marks g (s.setMarks g).effectiveLocks))

def execSetIncidentLocks (p : Port) (groups : Byte) (s : State) : Host.Outcome State Fault Refusal :=
  request .setIncidentLocks p true false true (incidentLocksService (LockGroups.ofByte groups)) s

/-! ## SET LIMITS (R182) -/

/-- A limit clamped, or the present value where the item is the mark unchanged (R182). -/
def limitStored (lo hi old : Nat) : Option Nat → Nat
  | none => old
  | some v => clamp lo hi v

/-- Whether a limit was clamped (R182). -/
def limitAdjusted (lo hi : Nat) : Option Nat → Bool
  | none => false
  | some v => clamp lo hi v != v

def setLimitsService (f : LimitsFields) (s : State) : Served :=
  let reserve := limitStored 0 128 s.visitors.reserve f.reserve
  let allowance := limitStored 16 1023 s.ports.allowance f.allowance
  let threshold := ((f.threshold.bind Threshold.ofCode).getD s.ports.threshold)
  ({ s with
      visitors := { s.visitors with reserve := reserve }
      ports := { s.ports with allowance := allowance, threshold := threshold } },
    fun _ => .done (limitAdjusted 0 128 f.reserve || limitAdjusted 16 1023 f.allowance) none
      (.limits (s.visitors.reserve, reserve) (s.ports.allowance, allowance) (s.ports.threshold, threshold)))

/-- The RANGE test of SET LIMITS (R182). -/
def LimitsFields.inRange (f : LimitsFields) : Bool :=
  (f.reserve.isSome || f.allowance.isSome || f.threshold.isSome)
    && (match f.threshold with
      | none => true
      | some c => (Threshold.ofCode c).isSome)

def execSetLimits (p : Port) (f : LimitsFields) (s : State) : Host.Outcome State Fault Refusal :=
  request .setLimits p true false (LimitsFields.inRange f) (setLimitsService f) s

/-! ## SITE STATUS (R183) -/

/-- The items of SITE STATUS (R183). -/
def State.status (s : State) : StatusResult where
  site := s.protection.site
  freeCount := s.visitors.freeCount
  expectedCount := s.visitors.count .expected
  activeCount := s.visitors.count .active
  transitCount := s.visitors.count .transit
  lostCount := s.visitors.count .lost
  slotsInUse := s.handover.slots.toList.countP (fun g => g.transaction.isSome)
  classQueues := s.handover.queues.toList.map List.length
  pendingClaims := s.claims.length
  joined := s.interest.countJoined
  leaving := s.interest.countLeaving
  owedLeaves := s.interest.owedLeaves.length
  sweepInFlight := s.sweep.inFlight
  parity := s.sweep.parity
  unvisited := s.sweep.unvisited
  incident := s.profiles.incident
  selection := s.profiles.selection
  maintenanceState := s.portState .maintenance
  linkState := s.portState .link
  channelStates := s.ports.channels.toList.map ChannelPort.state
  maintenanceQueue := s.ports.maintenance.alarms.length
  linkQueue := s.ports.link.queue.length
  channelQueues := s.ports.channels.toList.map (fun c => c.queue.length)
  ownLocks := s.protection.own
  marks := s.protection.marks
  effective := s.effectiveLocks
  reserve := s.visitors.reserve
  allowance := s.ports.allowance
  threshold := s.ports.threshold

def execSiteStatus (p : Port) (s : State) : Host.Outcome State Fault Refusal :=
  request .siteStatus p true false true (fun s => (s, fun _ => .done false none (.status s.status))) s

/-! ## READ RECORD (R20 to R22) -/

/-- The transaction items of a TRANSIT record (R21); the remaining time is the running timer's count of steps (log entry 5). -/
def State.transactionItems (s : State) (r : Record) : Option TransactionItems :=
  r.slot.bind (fun k => s.handover.slots[k].transaction.map (fun t =>
    { phase := t.phase
      slot := k
      generation := s.handover.slots[k].generation
      target := t.target
      remaining := t.timer.steps }))

def readRecordService (unit : Nat) (s : State) : Served :=
  match s.find unit with
  | none => s.refuse .unknown
  | some (i, r) => (s, fun _ => .done false none (.record i r (s.transactionItems r)))

def execReadRecord (p : Port) (unit : Nat) (s : State) : Host.Outcome State Fault Refusal :=
  request .readRecord p true false (unitInRange unit) (readRecordService unit) s

end Sys2Proof.Machine
end

