-- ==== Sys2Proof/Machine/Reset.lean ====
section
/-! DEFINITION. SITE RESET (10 R185, R186), the RESET pin and power-on (R184). -/

namespace Sys2Proof.Machine

/-- A slot made FREE, its generation kept (R91). -/
def Slot.freed (g : Slot) : Slot := { g with transaction := none }

/-- The visitor table after SITE RESET: every record released, oldest first, behind the free records (R24; log entry 19). -/
def VisitorTable.siteReset (t : VisitorTable) : VisitorTable :=
  { VisitorTable.reset with free := t.free ++ t.age, reserve := t.reserve }

/-- The sweep unit after SITE RESET: timer and parity kept (R70, R77). -/
def SweepUnit.siteReset (w : SweepUnit) : SweepUnit :=
  { w with inFlight := false, unvisited := 0, due := false, snapshot := none }

/-- The effects of a SITE RESET that passes (R185). -/
def State.siteReset (s : State) : State :=
  { s with
    visitors := s.visitors.siteReset
    claims := []
    sweep := s.sweep.siteReset
    handover := ⟨Vector.replicate 4 [], s.handover.slots.map Slot.freed⟩
    interest := .reset
    ports := { s.ports with
      link := { s.ports.link with queue := [], refreshOwed := s.ports.link.isOpen }
      channels := s.ports.channels.map (fun c => { c with queue := [] }) } }

/-- The confirmation of SITE RESET (R186). -/
def siteResetReply (force : Bool) (s : State) : Reply :=
  .done false none (.siteReset s.visitors.age.length
    (s.handover.slots.toList.countP (fun g => g.transaction.isSome))
    (s.interest.places.toList.countP Option.isSome)
    s.ports.link.queue.length
    (s.ports.channels.toList.map (fun c => c.queue.length))
    (if s.ports.link.isOpen then some .posted else none)
    (s.profiles.incident && force))

/-- SITE RESET, refused LOCKED during an incident unless it carries the force mark (R158, R185). -/
def execSiteReset (p : Port) (force : Bool) (s : State) : Host.Outcome State Fault Refusal :=
  request .siteReset p true (s.profiles.incident && !force) true (fun s => (s.siteReset, fun _ => siteResetReply force s)) s

/-- The RESET pin driven low (R184): lines low, confirmations abandoned; from here on nothing is taken but power-on
(log entry 13). -/
def State.pinLow (s : State) : State :=
  { s with
    resetPinLow := true
    ports := { s.ports with
      maintenance := { s.ports.maintenance with attention := false, outbound := [] }
      link := { s.ports.link with attention := false, outbound := [] }
      channels := s.ports.channels.map (fun c => { c with attention := false, outbound := [] }) } }

def execResetPinLow (s : State) : Host.Outcome State Fault Refusal := .next s.pinLow

/-- The RESET pin returns high: every block takes its power-on state in one step (R184). The commands that wait are outside
the engine and stay (log entry 1). Taken without a RESET_PIN_LOW before it, which R184 does not speak of, it is the same power-on
(DESIGN CHOICE, log entry 26). -/
def execPowerOn (s : State) : Host.Outcome State Fault Refusal := .next { State.reset with pending := s.pending }

end Sys2Proof.Machine
end

