-- ==== Sys2Proof/Machine/Timers.lean ====
section
/-! DEFINITION. The leave timer's expiry (06 R125), the flush time of the link queue (09 R176), and the 10 ms of time that a step on
an empty queue is (log entries 2 and 3). -/

namespace Sys2Proof.Machine

/-- The leave timer of a talkgroup's entry expires (R125); an entry that is not LEAVING has no such timer. -/
def InterestMap.expire (m : InterestMap) (tg : Nat) : InterestMap :=
  match m.place? tg with
  | none => m
  | some k => if m.places[k].any MapEntry.isLeaving then m.remove k else m

def execLeaveTimerExpiry (tg : Nat) (s : State) : Host.Outcome State Fault Refusal :=
  event (fun s => { s with interest := s.interest.expire tg }) s

/-- The waiting time of the oldest link notice reaches the link flush time (R176; log entry 4). -/
def flushOldest (flushTime : Nat) : List QueuedNotice → List QueuedNotice
  | [] => []
  | q :: rest => { q with waited := max q.waited flushTime } :: rest

def execLinkFlushTimeout (s : State) : Host.Outcome State Fault Refusal :=
  event (fun s => s.modifyLink (fun p => { p with queue := flushOldest s.selected.flushTime p.queue })) s

/-! ## 10 ms of time -/

/-- A sweep timer step is 250 ms, a transaction timer step 100 ms, a leave timer step 1 s (00 section 5.2). -/
def sweepUnit : Nat := 25
def transactionUnit : Nat := 10
def leaveUnit : Nat := 100

def Transaction.advance (t : Transaction) : Transaction := { t with timer := t.timer.advance transactionUnit }

def Slot.advance (g : Slot) : Slot := { g with transaction := g.transaction.map Transaction.advance }

def MapEntry.advance (e : MapEntry) : MapEntry :=
  match e.phase with
  | .joined => e
  | .leaving t => { e with phase := .leaving (t.advance leaveUnit) }

/-- Every running timer and waiting time moved on by 10 ms. -/
def State.advance (s : State) : State :=
  { s with
    sweep := { s.sweep with timer := s.sweep.timer.advance sweepUnit }
    handover := { s.handover with slots := s.handover.slots.map Slot.advance }
    interest := { s.interest with places := mapTable (Option.map MapEntry.advance) s.interest.places }
    ports := { s.ports with link := { s.ports.link with
      queue := s.ports.link.queue.map (fun q => { q with waited := q.waited + 1 }) } } }

/-- The expiry of a slot's running timer, when it has counted its steps (R100, R104, R107). -/
def slotExpiry (s : State) (k : Fin 8) : Option Instr :=
  s.handover.slots[k].transaction.bind (fun t =>
    if t.timer.expired then
      match t.phase with
      | .asked => some (.answerTimerExpiry k)
      | .held _ => some (.holdTimerExpiry k)
      | .ordered => some (.claimTimerExpiry k)
    else none)

/-- The expiry of a LEAVING entry's timer, when it has counted its seconds (R125). -/
def leaveExpiry (s : State) (k : Place) : Option Instr :=
  s.interest.places[k].bind (fun e =>
    match e.phase with
    | .joined => none
    | .leaving t => if t.expired then some (.leaveTimerExpiry e.talkgroup) else none)

/-- What the engine's own units send at a tick (log entry 3): the sweep timer's expiry, the slots' expiries by slot number, the
leave timers' expiries in leaving order, and a visit while a sweep is in flight. -/
def State.engineEvents (s : State) : List Instr :=
  (if s.sweep.timer.expired then [.sweepTimerExpiry] else [])
    ++ (List.finRange 8).filterMap (slotExpiry s)
    ++ s.interest.leaving.filterMap (leaveExpiry s)
    ++ (if s.sweep.inFlight then [.visit] else [])

/-- 10 ms with no command waiting (log entry 2). While the RESET pin is low no timer runs (R184). -/
def State.tick (s : State) : State :=
  if s.resetPinLow then s
  else
    let t := s.advance
    { t.refreshLines with pending := s.pending ++ t.engineEvents }

end Sys2Proof.Machine
end

