-- ==== Sys2Proof/Machine/Frames.lean ====
section
/-! DEFINITION. Frames (chapter 11): FORMAT, the arrival of a raw frame (R187, R188), and the bytes of confirmations and notices
(R187, R189 to R191). -/

namespace Sys2Proof.Machine

/-! ## The arrival of a raw frame -/

/-- The request of a frame that passes FORMAT, served on its port as the command it is (R188). -/
def serveRequest (p : Port) (r : Request) (s : State) : Host.Outcome State Fault Refusal :=
  match r with
  | .fetch count => execFetch p count s
  | .openPort => execOpen p s
  | .closePort => execClose p s
  | .register f => execRegister p f s
  | .deregister unit => execDeregister p unit s
  | .measure f => execMeasure p f s
  | .callStart unit => execCallStart p unit s
  | .callEnd unit => execCallEnd p unit s
  | .claimIn f => execClaimIn p f s
  | .askIn f => execAskIn p f s
  | .answer f => execAnswer p f s
  | .linkStatus site state => execLinkStatus p site state s
  | .setProfileField profile code value => execSetProfileField p profile code value s
  | .loadLevelTable start entries => execLoadLevelTable p start entries s
  | .loadErrorTable start entries => execLoadErrorTable p start entries s
  | .setNeighbour slot site bias => execSetNeighbour p slot site bias s
  | .setLimits f => execSetLimits p f s
  | .setSite site => execSetSite p site s
  | .lock groups => execLock p groups s
  | .unlock groups => execUnlock p groups s
  | .setIncidentLocks groups => execSetIncidentLocks p groups s
  | .declareIncident => execDeclareIncident p s
  | .standDown => execStandDown p s
  | .siteReset force => execSiteReset p force s
  | .unmute port => execUnmute p port s
  | .forceClose port => execForceClose p port s
  | .readRecord unit => execReadRecord p unit s
  | .siteStatus => execSiteStatus p s

/-- A frame refused FORMAT, its kind byte sent back as received (R188). -/
def refuseFormat (p : Port) (kind : Byte) (s : State) : Host.Outcome State Fault Refusal :=
  .next (Served.finish (s.refuse .format) kind.toNat p)

/-- FORMAT: a raw frame arrives (R187, R188). With no whole byte it is ignored. It is refused FORMAT when it began before the
previous confirmation was out, or when its kind or length is wrong; a frame that passes is served as its request (log entry 8). -/
def execFormat (p : Port) (bits : List Bool) (early : Bool) (s : State) : Host.Outcome State Fault Refusal :=
  if s.resetPinLow then .next s
  else
    match bytesOfBits bits with
    | [] => .next s
    | kind :: rest =>
      if early then refuseFormat p kind s
      else
        match decodeFrame (kind :: rest) with
        | none => refuseFormat p kind s
        | some r => serveRequest p r s

/-! ## Codes of confirmations (R189, R190) -/

def Reason.code : Reason → Nat
  | .format => 1
  | .role => 2
  | .closed => 3
  | .muted => 4
  | .notReady => 5
  | .locked => 6
  | .range => 7
  | .full => 8
  | .stale => 9
  | .unknown => 10
  | .busy => 11

def effectCode : Option Effect → Nat
  | none => 0
  | some .applied => 1
  | some .discarded => 2
  | some .kept => 3
  | some .yielded => 4
  | some .none => 5

def fateCode : Option Fate → Nat
  | none => 0
  | some .posted => 1
  | some .dropped => 2

def Registration.code : Registration → Nat
  | .new => 1
  | .arrived => 2
  | .refreshed => 3
  | .renewed => 4
  | .superseded => 5
  | .reactivated => 6

def RecordState.code : RecordState → Nat
  | .expected => 1
  | .active => 2
  | .transit => 3
  | .lost => 4

def HoldReason.code : HoldReason → Nat
  | .call => 1
  | .room => 2

def AskAnswer.code : AskAnswer → Nat
  | .accept => 0
  | .refuseFull => 8
  | .refusePresent => 12

/-- A prior state, 0 when absent (R189). -/
def priorCode : Option RecordState → Nat
  | none => 0
  | some st => st.code

def phaseCode : Phase → Nat
  | .asked => 1
  | .held _ => 2
  | .ordered => 3

/-- The hold reason of a phase, 0 for none (log entry 20). -/
def holdCode : Phase → Nat
  | .asked => 0
  | .held r => r.code
  | .ordered => 0

/-! ## Notices (R191) -/

def AlarmKey.code : AlarmKey → Nat
  | .tableFull => 1
  | .mapFull => 2
  | .portMuted c => 3 + c.val
  | .linkClosed => 7
  | .neighbourDown => 8

/-- A notice's kind (R191). -/
def Notice.code : Notice → Nat
  | .channel (.move _ _ _ _) => 1
  | .channel (.poll _) => 2
  | .link (.ask _ _ _ _ _ _ _ _) => 16
  | .link (.cancel _ _ _ _ _) => 17
  | .link (.claim _ _ _ _) => 18
  | .link (.counterclaim _ _ _ _) => 19
  | .link (.join _ _) => 20
  | .link (.leave _ _) => 21
  | .link (.refresh _) => 22
  | .alarm _ => 32

/-- A notice's content (R191). -/
def Notice.content : Notice → List Byte
  | .channel (.move unit target slot generation) => byte3 unit ++ byte2 target ++ byte1 slot.val ++ byte1 generation
  | .channel (.poll unit) => byte3 unit
  | .link (.ask unit asking target slot generation cls seq tgs) =>
    byte3 unit ++ byte2 asking ++ byte2 target ++ byte1 slot.val ++ byte1 generation ++ byte1 cls.index.val ++ byte1 seq
      ++ byte1 tgs.length ++ tgs.flatMap byte2
  | .link (.cancel unit asking target slot generation) =>
    byte3 unit ++ byte2 asking ++ byte2 target ++ byte1 slot.val ++ byte1 generation
  | .link (.claim unit site seq fresh) => byte3 unit ++ byte2 site ++ byte1 seq ++ byteOfMark fresh
  | .link (.counterclaim unit holding seq answered) => byte3 unit ++ byte2 holding ++ byte1 seq ++ byte2 answered
  | .link (.join tg site) => byte2 tg ++ byte2 site
  | .link (.leave tg site) => byte2 tg ++ byte2 site
  | .link (.refresh site) => byte2 site
  | .alarm a => byte1 a.key.code ++ byte1 a.repeats ++ byte3 a.detail

/-- A notice as FETCH returns it: kind, content length, content (R191). -/
def Notice.bytes (n : Notice) : List Byte := byte1 n.code ++ byte1 n.content.length ++ n.content

/-! ## Confirmations (R189, R190) -/

/-- An estimate, 65,535 when absent (R187). -/
def estimateBytes (e : Option Nat) : List Byte := byte2 (e.getD 65535)

/-- The estimate target of MEASURE: 0 HOME, else the site, 65,535 when absent (R189). -/
def targetBytes : Option EstimateTarget → List Byte
  | none => byte2 65535
  | some .home => byte2 0
  | some (.site n) => byte2 n

/-- REGISTER from byte 4 on (R189). The rule gives byte 8, claim pending, no code: 1 stands for yes and 0 for no (DESIGN CHOICE, log
entry 25). -/
def registerBytes (r : RegisterResult) : List Byte :=
  byte1 r.registration.code ++ byte2 r.index.val ++ byte1 r.seq ++ byteOfMark r.claimPending ++ byte1 r.sample ++ byte1 r.weight
    ++ byte2 r.home ++ byte1 (fateCode r.cancel) ++ byte1 r.grant.length ++ r.grant.flatMap byte2

/-- ANSWER's four results (R189). -/
def answerBytes : AnswerResult → List Byte
  | .ended => byte1 1 ++ byte1 0 ++ byte1 0 ++ byte1 0
  | .held reason => byte1 2 ++ byte1 reason.code ++ byte1 0 ++ byte1 0
  | .ordered => byte1 3 ++ byte1 0 ++ byte1 1 ++ byte1 0
  | .abandoned fate => byte1 4 ++ byte1 0 ++ byte1 0 ++ byte1 (fateCode (some fate))

/-- The flags byte of READ RECORD (R190). -/
def Record.flags (r : Record) : Nat :=
  r.heard.toNat + 2 * r.inCall.toNat + 4 * r.queued.toNat + 8 * r.claimPending.toNat + 16 * (r.stamp == .odd).toNat

/-- The heard history byte, bit 7 newest (R190). -/
def historyByte (h : Vector Bool 8) : Byte := byteOfBits h[0] h[1] h[2] h[3] h[4] h[5] h[6] h[7]

def NeighbourEntry.bytes (e : NeighbourEntry) : List Byte :=
  byte2 e.site ++ byte2 e.estimate ++ byte1 e.age ++ byte1 e.better ++ byte1 e.cooldown

/-- The transaction part of READ RECORD (R190). -/
def itemsBytes : Option TransactionItems → List Byte
  | none => byte1 0
  | some t =>
    byte1 1 ++ byte1 (phaseCode t.phase) ++ byte1 t.slot.val ++ byte1 t.generation ++ byte2 t.target ++ byte1 (holdCode t.phase)
      ++ byte1 t.remaining

/-- The serving port, 1 to 4, 0 when absent (R190). -/
def servingCode : Option (Fin 4) → Nat
  | none => 0
  | some c => c.val + 1

/-- READ RECORD from byte 4 on (R190). -/
def recordBytes (i : Index) (r : Record) (t : Option TransactionItems) : List Byte :=
  byte2 i.val ++ byte1 r.state.code ++ byte3 r.unit ++ byte1 r.cls.index.val ++ byte1 r.seq ++ byte1 (servingCode r.serving)
    ++ byte1 r.flags ++ [historyByte r.history] ++ estimateBytes r.home ++ byte2 (r.target.getD 0) ++ byte1 r.stateAge
    ++ byte2 (r.origin.getD 0) ++ byte1 r.talkgroups.length ++ r.talkgroups.flatMap byte2
    ++ byte1 r.neighbours.length ++ r.neighbours.flatMap NeighbourEntry.bytes ++ itemsBytes t

/-- The results of a DONE confirmation from byte 4 on, for the kinds whose layout the spec gives (R189 to R191); none for the
others. -/
def Result.laidOut : Result → Option (List Byte)
  | .fetched notices left => some (byte1 notices.length ++ byte1 left ++ notices.flatMap Notice.bytes)
  | .registered r => some (registerBytes r)
  | .measured x w target estimate displaced =>
    some (byte1 x ++ byte1 w ++ targetBytes target ++ estimateBytes estimate ++ byte2 (displaced.getD 0))
  | .claimSettled prior seq counterclaim =>
    some (byte1 (priorCode prior) ++ byte1 (seq.getD 0) ++ byte1 (fateCode counterclaim))
  | .asked answer index prior seq =>
    some (byte1 answer.code ++ byte2 ((index.map Fin.val).getD 65535) ++ byte1 (priorCode prior) ++ byte1 (seq.getD 0))
  | .answered r => some (answerBytes r)
  | .record i r t => some (recordBytes i r t)
  | .opened _ _ | .closed _ _ | .deregistered _ _ | .callStarted _ | .callEnded _ | .linkStatus _ _ _ => none
  | .profileField _ _ _ _ _ | .levelsStored _ | .penaltiesStored _ | .neighbourStored _ _ _ | .limits _ _ _ => none
  | .site _ _ | .locks _ _ _ | .marks _ _ _ | .incidentBefore _ _ | .siteReset _ _ _ _ _ _ _ | .unmuted _ _ => none
  | .status _ => none

/-- The results of a DONE confirmation of a kind, from byte 4 on (R189). Where the spec gives no layout they are a free value, of at most
the bytes that L leaves room for (log entry 11). -/
def Result.bytes (kind : Nat) (r : Result) : List Byte := r.laidOut.getD ((Config.unlaidResults kind r).take 253)

/-- The body of a confirmation of a kind: outcome, marks, results (R189). -/
def Reply.body (kind : Nat) : Reply → List Byte
  | .refused reason => byte1 reason.code ++ byte1 0
  | .stale seq => byte1 Reason.stale.code ++ byte1 0 ++ byte1 seq
  | .done adjusted effect result => byte1 0 ++ byte1 (adjusted.toNat + 2 * effectCode effect) ++ result.bytes kind

/-- A confirmation's frame: kind code, body length L, body (R187, R189). -/
def Confirmation.bytes (c : Confirmation) : List Byte :=
  byte1 c.kind ++ byte1 (c.reply.body c.kind).length ++ c.reply.body c.kind

end Sys2Proof.Machine
end

