-- ==== Sys2Proof/Machine/Dispatch.lean ====
section
/-! DEFINITION. exec: one arm per command, each a direct call of the command's meaning. -/

namespace Sys2Proof.Machine

def exec (i : Instr) (s : State) : Host.Outcome State Fault Refusal :=
  match i with
  | .fetch p count => Sys2Proof.Machine.execFetch p count s
  | .openPort p => Sys2Proof.Machine.execOpen p s
  | .closePort p => Sys2Proof.Machine.execClose p s
  | .register p f => Sys2Proof.Machine.execRegister p f s
  | .deregister p unit => Sys2Proof.Machine.execDeregister p unit s
  | .measure p f => Sys2Proof.Machine.execMeasure p f s
  | .callStart p unit => Sys2Proof.Machine.execCallStart p unit s
  | .callEnd p unit => Sys2Proof.Machine.execCallEnd p unit s
  | .claimIn p f => Sys2Proof.Machine.execClaimIn p f s
  | .askIn p f => Sys2Proof.Machine.execAskIn p f s
  | .answer p f => Sys2Proof.Machine.execAnswer p f s
  | .linkStatus p site state => Sys2Proof.Machine.execLinkStatus p site state s
  | .setProfileField p profile code value => Sys2Proof.Machine.execSetProfileField p profile code value s
  | .loadLevelTable p start entries => Sys2Proof.Machine.execLoadLevelTable p start entries s
  | .loadErrorTable p start entries => Sys2Proof.Machine.execLoadErrorTable p start entries s
  | .setNeighbour p slot site bias => Sys2Proof.Machine.execSetNeighbour p slot site bias s
  | .setLimits p f => Sys2Proof.Machine.execSetLimits p f s
  | .setSite p site => Sys2Proof.Machine.execSetSite p site s
  | .lock p groups => Sys2Proof.Machine.execLock p groups s
  | .unlock p groups => Sys2Proof.Machine.execUnlock p groups s
  | .setIncidentLocks p groups => Sys2Proof.Machine.execSetIncidentLocks p groups s
  | .declareIncident p => Sys2Proof.Machine.execDeclareIncident p s
  | .standDown p => Sys2Proof.Machine.execStandDown p s
  | .siteReset p force => Sys2Proof.Machine.execSiteReset p force s
  | .unmute p port => Sys2Proof.Machine.execUnmute p port s
  | .forceClose p port => Sys2Proof.Machine.execForceClose p port s
  | .readRecord p unit => Sys2Proof.Machine.execReadRecord p unit s
  | .siteStatus p => Sys2Proof.Machine.execSiteStatus p s
  | .format p bits early => Sys2Proof.Machine.execFormat p bits early s
  | .resetPinLow => Sys2Proof.Machine.execResetPinLow s
  | .powerOn => Sys2Proof.Machine.execPowerOn s
  | .sweepTimerExpiry => Sys2Proof.Machine.execSweepTimerExpiry s
  | .visit => Sys2Proof.Machine.execVisit s
  | .answerTimerExpiry slot => Sys2Proof.Machine.execAnswerTimerExpiry slot s
  | .holdTimerExpiry slot => Sys2Proof.Machine.execHoldTimerExpiry slot s
  | .claimTimerExpiry slot => Sys2Proof.Machine.execClaimTimerExpiry slot s
  | .leaveTimerExpiry talkgroup => Sys2Proof.Machine.execLeaveTimerExpiry talkgroup s
  | .linkFlushTimeout => Sys2Proof.Machine.execLinkFlushTimeout s
  | .confirmationClockedOut p => Sys2Proof.Machine.execConfirmationClockedOut p s

end Sys2Proof.Machine
end

