-- ==== Sys2Proof/Machine/Step.lean ====
section
/-! DEFINITION. One step: the command at the front of the queue; on an empty queue, 10 ms of time (log entries 1 and 2). -/

namespace Sys2Proof.Machine

/-- The command at the front of the queue is taken and run on the state with the queue's rest; on an empty queue 10 ms pass
(DESIGN CHOICE, log entry 2). -/
def step (s : State) : Host.Outcome State Fault Refusal :=
  match s.pending with
  | [] => .next s.tick
  | c :: rest => exec c { s with pending := rest }

/-- The state with the command a table word spells at the front of its queue; the state itself where the word spells none, which is
so of every word (log entry 1). -/
def State.withFetchWord (s : State) (nbits w : Nat) : State :=
  match decodeTableWord nbits w with
  | some c => { s with pending := c :: s.pending }
  | none => s

end Sys2Proof.Machine
end

