-- ==== Sys2Proof/Safety.lean ====
section
/-! DEFINITION. What a sound state of the SR-24 is: the facts the spec says hold at all times, each a predicate on states. The
statements say that every step keeps them. -/

namespace Sys2Proof.Machine

/-! ## The visitor table -/

/-- Every record is on exactly one of the free list and the age list, once, and is FREE exactly on the free list (R7, R10, R11). -/
structure TablePartition (t : VisitorTable) : Prop where
  freeNodup : t.free.Nodup
  ageNodup : t.age.Nodup
  free_iff : ∀ i : Index, i ∈ t.free ↔ t.records[i] = none
  age_iff : ∀ i : Index, i ∈ t.age ↔ t.records[i] ≠ none

/-- A record is on the chain of its unit ID's bucket, once, and on no other (R6). -/
structure ChainsExact (t : VisitorTable) : Prop where
  nodup : ∀ b : Fin 127, t.chains[b].Nodup
  mem_iff : ∀ (b : Fin 127) (i : Index), i ∈ t.chains[b] ↔ (t.records[i].any (fun r => bucketOf r.unit == b)) = true

/-- No two occupied records hold the same unit ID (R5). -/
def UnitsDistinct (t : VisitorTable) : Prop :=
  ∀ (i j : Index) (r q : Record), t.records[i] = some r → t.records[j] = some q → r.unit = q.unit → i = j

/-- The visitor table is sound (R5, R6, R7, R10, R11). -/
structure TableSound (t : VisitorTable) : Prop where
  partition : TablePartition t
  chains : ChainsExact t
  units : UnitsDistinct t

/-- Whether a record was not yet visited by the sweep of a parity (R70). -/
def unvisitedBy (parity : Parity) (r : Option Record) : Bool := r.any (fun x => x.stamp != parity)

/-- The unvisited count is exact, and 0 with the mark clear and no snapshot while no sweep is in flight (R69, R70, R72). -/
structure SweepExact (s : State) : Prop where
  count : s.sweep.unvisited = s.visitors.records.toList.countP (unvisitedBy s.sweep.parity)
  idle : s.sweep.inFlight = false → s.sweep.unvisited = 0 ∧ s.sweep.due = false ∧ s.sweep.snapshot = none
  flight : s.sweep.inFlight = true → 0 < s.sweep.unvisited ∧ s.sweep.snapshot.isSome = true

/-! ## Queues and lists -/

/-- No queue exceeds its places (R171, R172), and no alarm key stands twice in the maintenance queue (R173). -/
structure QueuesBounded (s : State) : Prop where
  link : s.ports.link.queue.length ≤ Config.linkQueue
  channels : ∀ c : Fin 4, s.ports.channels[c].queue.length ≤ Config.channelQueue
  alarms : (s.ports.maintenance.alarms.map Alarm.key).Nodup

/-- A slot's transaction names a TRANSIT record, and exactly that record names the slot (R91). -/
structure SlotsExact (s : State) : Prop where
  named : ∀ (k : Fin 8) (i : Index), s.handover.slots[k].transaction.map Transaction.record = some i ↔
    ((s.record? i).any (fun r => r.slot == some k)) = true
  transit : ∀ (i : Index) (r : Record), s.record? i = some r → (r.slot.isSome = true ↔ r.state = .transit)

/-- A record is in a class queue exactly when it is ACTIVE and queued, in the queue of its class, once, and a queued record has a
target (R3, R90). -/
structure ClassQueuesExact (s : State) : Prop where
  nodup : ∀ c : Fin 4, s.handover.queues[c].Nodup
  mem_iff : ∀ (c : Fin 4) (i : Index), i ∈ s.handover.queues[c] ↔
    ((s.record? i).any (fun r => r.state == .active && r.queued && r.cls.index == c)) = true
  queued : ∀ (i : Index) (r : Record), s.record? i = some r →
    (r.queued = true → r.state = .active) ∧ (r.target.isSome = r.queued)

/-- A record is on the pending-claims list exactly when its claim pending is yes, and never twice (R65). -/
structure ClaimsExact (s : State) : Prop where
  nodup : (s.claims.map PendingClaim.index).Nodup
  mem_iff : ∀ i : Index, i ∈ s.claims.map PendingClaim.index ↔ ((s.record? i).any Record.claimPending) = true

/-! ## The interest map -/

/-- How many ACTIVE or TRANSIT records name a talkgroup (R119). -/
def State.members (s : State) (tg : Nat) : Nat :=
  s.visitors.records.toList.countP (fun r => r.any (fun x => x.counted && x.talkgroups.contains tg))

/-- The member counts agree with the records (R118, R119). -/
structure InterestExact (s : State) : Prop where
  distinct : ∀ (j k : Place) (d e : MapEntry), s.interest.places[j] = some d → s.interest.places[k] = some e →
    d.talkgroup = e.talkgroup → j = k
  count : ∀ (k : Place) (e : MapEntry), s.interest.places[k] = some e →
    e.count = s.members e.talkgroup ∧ (e.isLeaving = true ↔ e.count = 0)
  mapped : ∀ (i : Index) (r : Record), s.record? i = some r → r.counted = true →
    ∀ tg ∈ r.talkgroups, (s.interest.place? tg).isSome = true
  leavingNodup : s.interest.leaving.Nodup
  leaving_iff : ∀ k : Place, k ∈ s.interest.leaving ↔ (s.interest.places[k].any MapEntry.isLeaving) = true

/-- The owed-leaves list: no talkgroup twice, no announced one, at most 256 with the announced entries, and an entry's leave owed as
the list has it (R121, R126). -/
structure OwedLeavesExact (m : InterestMap) : Prop where
  nodup : m.owedLeaves.Nodup
  capacity : m.owedLeaves.length + m.places.toList.countP (fun o => o.any MapEntry.announced) ≤ 256
  marks : ∀ (k : Place) (e : MapEntry), m.places[k] = some e → (e.leaveOwed = true ↔ e.talkgroup ∈ m.owedLeaves)
  announced : ∀ (k : Place) (e : MapEntry), m.places[k] = some e → e.announced = true → e.talkgroup ∉ m.owedLeaves

/-! ## Record contents -/

/-- No neighbour entry of the record was made during a transaction towards its site. -/
def Record.noneLate (r : Record) : Prop := ∀ e ∈ r.neighbours, e.late = false

/-- Which optional fields are present by state (R3). Only a TRANSIT record holds an entry made late (log entry 24). -/
def Record.fieldsByState (r : Record) : Prop :=
  match r.state with
  | .expected =>
    r.serving = none ∧ r.queued = false ∧ r.target = none ∧ r.slot = none ∧ r.origin.isSome = true ∧ r.noneLate
  | .active =>
    r.serving.isSome = true ∧ r.home.isSome = true ∧ r.target.isSome = r.queued ∧ r.slot = none ∧ r.origin = none ∧ r.noneLate
  | .transit =>
    r.serving.isSome = true ∧ r.home.isSome = true ∧ r.queued = false ∧ r.target = none ∧ r.slot.isSome = true ∧ r.origin = none
  | .lost =>
    r.serving.isSome = true ∧ r.home.isSome = true ∧ r.queued = false ∧ r.target = none ∧ r.slot = none ∧ r.origin = none
    ∧ r.noneLate

/-- Every occupied record has the fields of its state (R3). -/
def FieldsByState (s : State) : Prop := ∀ (i : Index) (r : Record), s.record? i = some r → r.fieldsByState

/-- A neighbour entry within its ranges (R2). -/
def NeighbourEntry.inRange (e : NeighbourEntry) : Prop :=
  e.estimate ≤ 4080 ∧ e.age ≤ 255 ∧ e.better ≤ 15 ∧ e.cooldown ≤ 63

/-- A record's numbers within their ranges (R2). -/
structure Record.inRange (r : Record) : Prop where
  unit : 1 ≤ r.unit ∧ r.unit ≤ 16777214
  seq : r.seq ≤ 15
  talkgroups : r.talkgroups.length ≤ 4 ∧ ∀ tg ∈ r.talkgroups, 1 ≤ tg ∧ tg ≤ 65534
  target : ∀ site ∈ r.target, 1 ≤ site ∧ site ≤ 1023
  stateAge : r.stateAge ≤ 255
  origin : ∀ site ∈ r.origin, 1 ≤ site ∧ site ≤ 1023

/-- The records' numbers within their ranges, and their neighbour entries for distinct sites of the neighbour table (R2, R42). -/
structure RecordsSound (s : State) : Prop where
  inRange : ∀ (i : Index) (r : Record), s.record? i = some r → r.inRange
  distinct : ∀ (i : Index) (r : Record), s.record? i = some r → (r.neighbours.map NeighbourEntry.site).Nodup
  inTable : ∀ (i : Index) (r : Record), s.record? i = some r → ∀ e ∈ r.neighbours,
    ∃ (k : Fin 12) (n : Neighbour), s.neighbours[k] = some n ∧ n.site = e.site

/-- The limits, chatter counts, generations, repeat counts and the site number within their ranges (R12, R91, R169, R173, R177,
R182). -/
structure CountsSound (s : State) : Prop where
  reserve : s.visitors.reserve ≤ 128
  allowance : 16 ≤ s.ports.allowance ∧ s.ports.allowance ≤ 1023
  chatter : ∀ c : Fin 4, s.ports.channels[c].chatter ≤ 1023
  generations : ∀ k : Fin 8, s.handover.slots[k].generation ≤ 15
  repeats : ∀ a ∈ s.ports.maintenance.alarms, 1 ≤ a.repeats ∧ a.repeats ≤ 255
  site : s.protection.site ≤ 1023

/-- A profile with every field in its range (R150). -/
def Profile.inRange (p : Profile) : Prop :=
  ∀ code : Fin 15, (fieldRange (code.val + 1)).1 ≤ p.field (code.val + 1) ∧ p.field (code.val + 1) ≤ (fieldRange (code.val + 1)).2

/-- Both profiles in range, and the selection as the incident flag has it (R149, R150). -/
structure ProfilesSound (s : State) : Prop where
  normal : s.profiles.normal.inRange
  incident : s.profiles.incidentProfile.inRange
  selection : s.profiles.selection = if s.profiles.incident then .incident else .normal

/-- Scores, caps, penalties, estimates and the counts beside them within their ranges (R2, R30, R31, R38, R150). -/
structure ScoresSound (s : State) : Prop where
  profiles : ProfilesSound s
  levels : ∀ i : Fin 61, s.scoring.levels[i].score ≤ 255 ∧ 1 ≤ s.scoring.levels[i].cap ∧ s.scoring.levels[i].cap ≤ 16
  penalties : ∀ g : Fin 16, s.scoring.penalties[g] ≤ 255
  home : ∀ (i : Index) (r : Record), s.record? i = some r → ∀ e ∈ r.home, e ≤ 4080
  entries : ∀ (i : Index) (r : Record), s.record? i = some r →
    r.neighbours.length ≤ Config.neighbourEntries ∧ ∀ e ∈ r.neighbours, e.inRange

/-- The neighbour table: sites in range, none twice, and none this site's own (R133). -/
structure NeighboursSound (s : State) : Prop where
  inRange : ∀ (k : Fin 12) (n : Neighbour), s.neighbours[k] = some n →
    siteInRange n.site = true ∧ -32 ≤ n.bias ∧ n.bias ≤ 31 ∧ n.site ≠ s.protection.site
  distinct : ∀ (j k : Fin 12) (m n : Neighbour), s.neighbours[j] = some m → s.neighbours[k] = some n → m.site = n.site → j = k

/-- While the link port is CLOSED the site is an island (R141, R142, R113). -/
structure IslandSound (s : State) : Prop where
  queue : s.ports.link.isOpen = false → s.ports.link.queue = [] ∧ s.ports.link.refreshOwed = false
  neighbours : s.ports.link.isOpen = false → ∀ (k : Fin 12) (n : Neighbour), s.neighbours[k] = some n → n.link = .down
  noneAsked : s.ports.link.isOpen = false → ∀ k : Fin 8, s.phase? k ≠ some .asked
  noneQueued : s.ports.link.isOpen = false →
    (∀ c : Fin 4, s.handover.queues[c] = []) ∧ ∀ (i : Index) (r : Record), s.record? i = some r → r.queued = false

/-- The visitor table and every list that names records agree, the interest map counts its members, and a CLOSED link port leaves
an island. -/
structure EngineSound (s : State) : Prop where
  table : TableSound s.visitors
  sweep : SweepExact s
  slots : SlotsExact s
  classQueues : ClassQueuesExact s
  claims : ClaimsExact s
  fields : FieldsByState s
  /-- No talkgroup stands twice in a record's list (R2, R47). -/
  talkgroups : ∀ (i : Index) (r : Record), s.record? i = some r → r.talkgroups.Nodup
  interest : InterestExact s
  owedLeaves : OwedLeavesExact s.interest
  island : IslandSound s

/-- Every queue within its places, and every number within its range. -/
structure RangesSound (s : State) : Prop where
  queues : QueuesBounded s
  scores : ScoresSound s
  neighbours : NeighboursSound s
  records : RecordsSound s
  counts : CountsSound s

/-! ## The order of checks -/

/-- The kinds that each role admits, as the table of R166 lists them. -/
def admittedKinds : Port → List Kind
  | .maintenance =>
    [.fetch, .setProfileField, .loadLevelTable, .loadErrorTable, .setNeighbour, .setLimits, .setSite, .lock, .unlock, .setIncidentLocks,
      .declareIncident, .standDown, .siteReset, .unmute, .forceClose, .readRecord, .siteStatus]
  | .link => [.fetch, .openPort, .closePort, .claimIn, .askIn, .answer, .linkStatus]
  | .channel _ => [.fetch, .openPort, .closePort, .register, .deregister, .measure, .callStart, .callEnd]

/-- The kinds that count as chatter (R169). -/
def countedKinds : List Kind := [.register, .measure, .callStart, .callEnd]

/-- A request of a kind passes steps 1 to 6 of the order of checks on a port (R168): the pin is high, no confirmation waits on the
port, the role admits the kind, the port state does, the chatter count is below the allowance, an opening finds a site number, and
the kind's lock group is free. -/
structure Passes (s : State) (k : Kind) (p : Port) : Prop where
  pin : s.resetPinLow = false
  line : s.outbound p = []
  role : k ∈ admittedKinds p
  closed : s.portState p = .closed → k = .openPort ∨ k = .closePort
  muted : s.portState p = .muted → k = .fetch ∨ k = .closePort
  chatter : ∀ c : Fin 4, p = .channel c → k ∈ countedKinds → s.ports.channels[c].chatter < s.ports.allowance
  ready : k = .openPort → s.portState p = .closed → s.protection.site ≠ 0
  tables : k = .loadLevelTable ∨ k = .loadErrorTable → s.effectiveLocks.tables = false
  profiles : k = .setProfileField → s.effectiveLocks.profiles = false
  neighbours : k = .setNeighbour → s.effectiveLocks.neighbours = false
  limits : k = .setLimits → s.effectiveLocks.limits = false

/-- A number that can be a radio's unit ID (R2, R5). -/
abbrev NamesRadio (n : Nat) : Prop := 1 ≤ n ∧ n ≤ 16777214

/-- A number that can be another site's: a site number, and not this site's own (R60, R114). -/
abbrev State.NamesOtherSite (s : State) (n : Nat) : Prop := 1 ≤ n ∧ n ≤ 1023 ∧ n ≠ s.protection.site

/-- A number that is no radio's unit ID (R5). -/
abbrev NoRadio (n : Nat) : Prop := n = 0 ∨ 16777215 ≤ n

/-- A number that is no site's (R133). -/
abbrev NoSite (n : Nat) : Prop := n = 0 ∨ 1023 < n

/-- What makes a request out of range at step 7 of the order of checks, by its own rule (R5, R25, R32, R46, R60, R96, R114, R135, R138,
R151, R164, R165, R177, R180, R182). -/
def State.outOfRange (s : State) : Request → Prop
  | .register f => NoRadio f.unit ∨ 3 < f.cls ∨ 15 < f.seq
  | .deregister unit => NoRadio unit
  | .measure f => NoRadio f.unit ∨ 1 < f.source ∨ (f.source = 1 ∧ NoSite f.site)
  | .callStart unit => NoRadio unit
  | .callEnd unit => NoRadio unit
  | .claimIn f => NoRadio f.unit ∨ NoSite f.site ∨ f.site = s.protection.site ∨ 15 < f.seq
  | .askIn f => NoRadio f.unit ∨ NoSite f.origin ∨ f.origin = s.protection.site ∨ 3 < f.cls ∨ 15 < f.seq
  | .answer f => 7 < f.slot ∨ 15 < f.generation ∨ NoRadio f.unit ∨ NoSite f.site ∨ 1 < f.answer
  | .linkStatus site link => NoSite site ∨ site = s.protection.site ∨ 2 < link
  | .setProfileField profile code _ => 1 < profile ∨ code = 0 ∨ 15 < code
  | .loadLevelTable start entries => entries.length = 0 ∨ 8 < entries.length ∨ 60 < start ∨ 60 < start + entries.length - 1
  | .loadErrorTable start entries => entries.length = 0 ∨ 8 < entries.length ∨ 15 < start ∨ 15 < start + entries.length - 1
  | .setNeighbour slot site _ => 11 < slot ∨ 1023 < site ∨ (site ≠ 0 ∧ site = s.protection.site)
      ∨ ∃ (k : Fin 12) (n : Neighbour), s.neighbours[k] = some n ∧ n.site = site ∧ k.val ≠ slot
  | .setLimits f => (f.reserve = none ∧ f.allowance = none ∧ f.threshold = none) ∨ ∃ code ∈ f.threshold, 3 < code
  | .setSite site => NoSite site ∨ ∃ (k : Fin 12) (n : Neighbour), s.neighbours[k] = some n ∧ n.site = site
  | .lock groups => ∀ b < 4, groups.getLsbD b = false
  | .unlock groups => ∀ b < 4, groups.getLsbD b = false
  | .unmute port => port = 0 ∨ 4 < port
  | .forceClose port => port = 0 ∨ 5 < port
  | .readRecord unit => NoRadio unit
  | .fetch _ | .openPort | .closePort => False
  | .setIncidentLocks _ | .declareIncident | .standDown | .siteReset _ | .siteStatus => False

/-- A channel port's chatter count raised by 1 (R169). -/
def State.chattered (s : State) (c : Fin 4) : State := s.modifyChannel c (fun p => { p with chatter := p.chatter + 1 })

/-- A request's confirmation on its port, with every attention line as R175 and R176 have it (R160). -/
def State.reply (s : State) (p : Port) (k : Kind) (r : Reply) : State := s.refreshLines.confirm p ⟨k.code, r⟩

/-- A counted arrival that marks its radio heard: the chatter count is raised, the heard mark set and the record moved to the age-list
tail (R8, R169); a LOST record is ACTIVE again, with eight heard entries and the talkgroups that could be mapped (R56). -/
def State.heardArrival (s : State) (c : Fin 4) (i : Index) (r : Record) : State :=
  let s := ((s.chattered c).modifyRecord i (fun x => { x with heard := true })).toTail i
  if r.state = .lost then
    let u := s.countTalkgroups r.unit r.talkgroups
    u.1.modifyRecord i (fun x => { x with state := .active, history := Vector.replicate 8 true, talkgroups := u.2 })
  else s

/-- A record as a visit by the sweep leaves its history, heard mark, call mark and stamp (R74, R78). -/
def Record.visited (r : Record) (parity : Parity) : Record :=
  { r with
    history := #v[r.heard, r.history[0], r.history[1], r.history[2], r.history[3], r.history[4], r.history[5], r.history[6]]
    heard := false
    inCall := r.inCall && r.heard
    stamp := parity }

/-- A record's neighbour entries a visit older: ages counted, cooldowns run down, entries older than the estimate life removed
(R81). -/
def Record.entriesAged (r : Record) (life : Nat) : List NeighbourEntry :=
  r.neighbours.filterMap (fun e =>
    if life < min 255 (e.age + 1) then none else some { e with age := min 255 (e.age + 1), cooldown := e.cooldown - 1 })

/-- One transaction slot written. -/
def State.withSlot (s : State) (k : Fin 8) (g : Slot) : State :=
  { s with handover := { s.handover with slots := s.handover.slots.set k g } }

/-- A neighbour entry of a record whose transaction ended by failure (R108): better count 0 and, on the target's entry where the cause
calls for it, the refusal cooldown, unless that entry was made during the transaction (log entry 24). -/
def NeighbourEntry.afterEnd (e : NeighbourEntry) (target : Nat) (cooldown : Option Nat) : NeighbourEntry :=
  { e with
    better := 0
    cooldown := if e.site = target ∧ e.late = false then cooldown.getD e.cooldown else e.cooldown
    late := false }

/-- A transaction ended by failure (R108): the slot FREE with its generation kept, the record ACTIVE with its entries as they are then. -/
def State.failed (s : State) (k : Fin 8) (x : Transaction) (cooldown : Option Nat) : State :=
  { s.modifyRecord x.record (fun r =>
      { r with
        state := .active
        slot := none
        neighbours := r.neighbours.map (fun e => e.afterEnd x.target cooldown) }) with
    handover := { s.handover with slots := s.handover.slots.set k ⟨s.handover.slots[k].generation, none⟩ } }

/-- A notice offered to the link queue: posted when the port is OPEN and the queue has room, dropped otherwise (R147). -/
def State.offered (s : State) (n : LinkNotice) : State :=
  if s.ports.link.isOpen = true ∧ s.ports.link.queue.length < 64 then
    s.modifyLink (fun p => { p with queue := p.queue ++ [⟨n, 0⟩] })
  else s

/-- What became of a notice offered to the link queue (R147). -/
def State.fateOfOffer (s : State) : Fate :=
  if s.ports.link.isOpen = true ∧ s.ports.link.queue.length < 64 then .posted else .dropped

/-- The transaction of a TRANSIT record ended by supersession: a CANCEL offered, and no cooldown (R110). -/
def State.superseded (s : State) (r : Record) : State :=
  match r.slot with
  | none => s
  | some k =>
    match s.handover.slots[k].transaction with
    | none => s
    | some x => (s.offered (.cancel r.unit s.protection.site x.target k s.handover.slots[k].generation)).failed k x none

/-- A MOVE attempt of a slot's transaction, for a record with its serving port (R99): on a CLOSED port the transaction fails with a
CANCEL and the refusal cooldown; during a call, or with no room, the slot is HELD, the hold timer loaded when it comes from ASKED;
otherwise the MOVE is posted and the slot ORDERED. -/
def State.attempted (s : State) (k : Fin 8) (x : Transaction) (r : Record) (d : Fin 4) : State :=
  let g := s.handover.slots[k].generation
  let holdTimer : Timer := if x.phase = .asked then ⟨x.orderHold, 0⟩ else x.timer
  if s.ports.channels[d].state = .closed then
    (s.offered (.cancel r.unit s.protection.site x.target k g)).failed k x (some s.selected.refusalCooldown)
  else if r.inCall = true then s.withSlot k ⟨g, some { x with phase := .held .call, timer := holdTimer }⟩
  else if 32 ≤ s.ports.channels[d].queue.length then s.withSlot k ⟨g, some { x with phase := .held .room, timer := holdTimer }⟩
  else
    (s.withSlot k ⟨g, some { x with phase := .ordered, timer := ⟨x.claimTimeout, 0⟩ }⟩).modifyChannel d
      (fun p => { p with queue := p.queue ++ [.move r.unit x.target k g] })

/-- The MOVE attempt of one slot when room is made on a channel port: of a slot HELD for ROOM whose record is served there (R103). -/
def State.attemptForRoom (s : State) (c : Fin 4) (k : Fin 8) : State :=
  match s.handover.slots[k].transaction with
  | none => s
  | some x =>
    match s.record? x.record with
    | none => s
    | some r => if x.phase = .held .room ∧ r.serving = some c then s.attempted k x r c else s

/-- The MOVE attempts when room is made on a channel port, lowest slot first, each against what the earlier ones left (R103). -/
def State.attemptsForRoom (s : State) (c : Fin 4) : State := (List.finRange 8).foldl (fun u k => u.attemptForRoom c k) s

/-- Every block but the port unit is as it was, and so are the queue of commands and the pin. -/
structure BlocksKept (s t : State) : Prop where
  pending : t.pending = s.pending
  resetPinLow : t.resetPinLow = s.resetPinLow
  visitors : t.visitors = s.visitors
  scoring : t.scoring = s.scoring
  claims : t.claims = s.claims
  sweep : t.sweep = s.sweep
  handover : t.handover = s.handover
  interest : t.interest = s.interest
  neighbours : t.neighbours = s.neighbours
  profiles : t.profiles = s.profiles
  protection : t.protection = s.protection

/-- The blocks that hold configuration are as they were, and so are the queue of commands and the pin. -/
structure ConfigKept (s t : State) : Prop where
  pending : t.pending = s.pending
  resetPinLow : t.resetPinLow = s.resetPinLow
  scoring : t.scoring = s.scoring
  profiles : t.profiles = s.profiles
  protection : t.protection = s.protection
  reserve : t.visitors.reserve = s.visitors.reserve
  allowance : t.ports.allowance = s.ports.allowance
  threshold : t.ports.threshold = s.ports.threshold

/-- Every record queued for a site withdrawn and every ASKED transaction to it ended by failure (R112, R137, R139): the slots, records and
class queues as they are then, and the interest map, the claims, the sweep and the configuration as they were. `kept` is what becomes of
the neighbour entries of a record that stays as it is, and `ended` of one whose transaction ended. -/
structure SiteCleared (s u : State) (site : Nat) (kept ended : List NeighbourEntry → List NeighbourEntry) : Prop where
  freed : ∀ (j : Fin 8) (x : Transaction), s.handover.slots[j].transaction = some x → x.phase = .asked → x.target = site →
    u.handover.slots[j] = ⟨s.handover.slots[j].generation, none⟩
  slots : ∀ j : Fin 8, (∀ x : Transaction, s.handover.slots[j].transaction = some x → x.phase ≠ .asked ∨ x.target ≠ site) →
    u.handover.slots[j] = s.handover.slots[j]
  queues : ∀ c : Fin 4, u.handover.queues[c] =
    s.handover.queues[c].filter (fun i => !(s.record? i).any (fun r => r.queued && r.target == some site))
  released : ∀ (j : Fin 8) (x : Transaction) (r : Record), s.handover.slots[j].transaction = some x → x.phase = .asked →
    x.target = site → s.record? x.record = some r →
    u.record? x.record = some { r with state := .active, slot := none, neighbours := ended r.neighbours }
  withdrawn : ∀ (i : Index) (r : Record), s.record? i = some r → r.queued = true → r.target = some site →
    u.record? i = some { r with queued := false, target := none, neighbours := kept r.neighbours }
  others : ∀ (i : Index) (r : Record), s.record? i = some r → (r.queued = false ∨ r.target ≠ some site) →
    (∀ (j : Fin 8) (x : Transaction), r.slot = some j → s.handover.slots[j].transaction = some x →
      x.phase ≠ .asked ∨ x.target ≠ site) →
    u.record? i = some { r with neighbours := kept r.neighbours }
  vacant : ∀ i : Index, s.record? i = none → u.record? i = none
  chains : u.visitors.chains = s.visitors.chains
  age : u.visitors.age = s.visitors.age
  free : u.visitors.free = s.visitors.free
  claims : u.claims = s.claims
  interest : u.interest = s.interest
  sweep : u.sweep = s.sweep
  config : ConfigKept s u

/-! ## The bytes and codes of requests (R187, R188) -/

/-- The kind codes of R188; no other code names a kind. -/
def KindCodes : Prop :=
  let codes : List (Kind × Nat) :=
    [(.fetch, 1), (.openPort, 2), (.closePort, 3), (.register, 16), (.deregister, 17), (.measure, 18), (.callStart, 19), (.callEnd, 20),
      (.claimIn, 32), (.askIn, 33), (.answer, 34), (.linkStatus, 35), (.setProfileField, 48), (.loadLevelTable, 49),
      (.loadErrorTable, 50), (.setNeighbour, 51), (.setLimits, 52), (.setSite, 53), (.lock, 54), (.unlock, 55), (.setIncidentLocks, 56),
      (.declareIncident, 64), (.standDown, 65), (.siteReset, 66), (.unmute, 67), (.forceClose, 68), (.readRecord, 80),
      (.siteStatus, 81)]
  (∀ c ∈ codes, c.1.code = c.2 ∧ Kind.ofCode c.2 = some c.1) ∧ ∀ n : Nat, n ∉ codes.map Prod.snd → Kind.ofCode n = none

/-- The frame of each request (R188): kind code, body length, body. R188 lays out the bodies of REGISTER, MEASURE, CLAIM IN, ASK IN, ANSWER,
SET NEIGHBOUR and SET LIMITS and the table entries; the order of the fields of the others is log entry 10. -/
def RequestFrames : Prop :=
  (∀ f : RegisterFields, Request.frame (.register f) =
    byte1 16 ++ byte1 (9 + 2 * f.talkgroups.length) ++ byte3 f.unit ++ byte1 f.cls ++ byte1 f.seq
      ++ byte1 (if f.fresh = true then 1 else 0) ++ byte1 f.attenuation ++ byte1 f.grade ++ byte1 f.talkgroups.length
      ++ f.talkgroups.flatMap byte2)
  ∧ (∀ f : MeasureFields, Request.frame (.measure f) =
    byte1 18 ++ byte1 8 ++ byte3 f.unit ++ byte1 f.source ++ byte2 f.site ++ byte1 f.attenuation ++ byte1 f.grade)
  ∧ (∀ f : ClaimFields, Request.frame (.claimIn f) =
    byte1 32 ++ byte1 7 ++ byte3 f.unit ++ byte2 f.site ++ byte1 f.seq ++ byte1 (if f.fresh = true then 1 else 0))
  ∧ (∀ f : AskFields, Request.frame (.askIn f) =
    byte1 33 ++ byte1 (8 + 2 * f.talkgroups.length) ++ byte3 f.unit ++ byte2 f.origin ++ byte1 f.cls ++ byte1 f.seq
      ++ byte1 f.talkgroups.length ++ f.talkgroups.flatMap byte2)
  ∧ (∀ f : AnswerFields, Request.frame (.answer f) =
    byte1 34 ++ byte1 8 ++ byte1 f.slot ++ byte1 f.generation ++ byte3 f.unit ++ byte2 f.site ++ byte1 f.answer)
  ∧ (∀ (slot site : Nat) (bias : Int), Request.frame (.setNeighbour slot site bias) =
    byte1 51 ++ byte1 4 ++ byte1 slot ++ byte2 site ++ [BitVec.ofInt 8 bias])
  ∧ (∀ f : LimitsFields, Request.frame (.setLimits f) =
    byte1 52 ++ byte1 5 ++ byte2 (f.reserve.getD 65535) ++ byte2 (f.allowance.getD 65535) ++ byte1 (f.threshold.getD 255))
  ∧ (∀ (start : Nat) (entries : List (Nat × Nat)), Request.frame (.loadLevelTable start entries) =
    byte1 49 ++ byte1 (2 + 2 * entries.length) ++ byte1 start ++ byte1 entries.length
      ++ entries.flatMap (fun e => byte1 e.1 ++ byte1 e.2))
  ∧ (∀ (start : Nat) (entries : List Nat), Request.frame (.loadErrorTable start entries) =
    byte1 50 ++ byte1 (2 + entries.length) ++ byte1 start ++ byte1 entries.length ++ entries.flatMap byte1)
  ∧ (∀ site link : Nat, Request.frame (.linkStatus site link) = byte1 35 ++ byte1 3 ++ byte2 site ++ byte1 link)
  ∧ (∀ profile code value : Nat, Request.frame (.setProfileField profile code value) =
    byte1 48 ++ byte1 4 ++ byte1 profile ++ byte1 code ++ byte2 value)
  ∧ (∀ unit : Nat, Request.frame (.deregister unit) = byte1 17 ++ byte1 3 ++ byte3 unit
    ∧ Request.frame (.callStart unit) = byte1 19 ++ byte1 3 ++ byte3 unit
    ∧ Request.frame (.callEnd unit) = byte1 20 ++ byte1 3 ++ byte3 unit
    ∧ Request.frame (.readRecord unit) = byte1 80 ++ byte1 3 ++ byte3 unit)
  ∧ (∀ n : Nat, Request.frame (.fetch n) = byte1 1 ++ byte1 1 ++ byte1 n ∧ Request.frame (.setSite n) = byte1 53 ++ byte1 2 ++ byte2 n
    ∧ Request.frame (.unmute n) = byte1 67 ++ byte1 1 ++ byte1 n ∧ Request.frame (.forceClose n) = byte1 68 ++ byte1 1 ++ byte1 n)
  ∧ (∀ groups : Byte, Request.frame (.lock groups) = byte1 54 ++ byte1 1 ++ [groups]
    ∧ Request.frame (.unlock groups) = byte1 55 ++ byte1 1 ++ [groups]
    ∧ Request.frame (.setIncidentLocks groups) = byte1 56 ++ byte1 1 ++ [groups])
  ∧ (∀ force : Bool, Request.frame (.siteReset force) = byte1 66 ++ byte1 1 ++ byte1 (if force = true then 1 else 0))
  ∧ (Request.frame .openPort = byte1 2 ++ byte1 0 ∧ Request.frame .closePort = byte1 3 ++ byte1 0
    ∧ Request.frame .declareIncident = byte1 64 ++ byte1 0 ∧ Request.frame .standDown = byte1 65 ++ byte1 0
    ∧ Request.frame .siteStatus = byte1 81 ++ byte1 0)

/-- The codes of a class (R2). -/
def classCodes : List (RadioClass × Nat) := [(.command, 0), (.air, 1), (.crew, 2), (.general, 3)]

/-- The codes of the enumerated operands (R2, R187): class, link state, profile, threshold; no other code names one. -/
def OperandCodes : Prop :=
  (∀ c ∈ classCodes, RadioClass.ofCode c.2 = some c.1 ∧ c.1.index.val = c.2)
  ∧ (LinkState.ofCode 0 = some .up ∧ LinkState.ofCode 1 = some .fading ∧ LinkState.ofCode 2 = some .down)
  ∧ (ProfileName.ofCode 0 = some .normal ∧ ProfileName.ofCode 1 = some .incident)
  ∧ (Threshold.ofCode 0 = some .quarter ∧ Threshold.ofCode 1 = some .half ∧ Threshold.ofCode 2 = some .threeQuarters
    ∧ Threshold.ofCode 3 = some .full)
  ∧ ∀ n : Nat, (3 < n → RadioClass.ofCode n = none ∧ Threshold.ofCode n = none) ∧ (2 < n → LinkState.ofCode n = none)
    ∧ (1 < n → ProfileName.ofCode n = none)

/-! ## The bytes of confirmations and notices (R189 to R191) -/

/-- The reasons of a refusal without results, and their codes (R189). -/
def reasonCodes : List (Reason × Nat) :=
  [(.format, 1), (.role, 2), (.closed, 3), (.muted, 4), (.notReady, 5), (.locked, 6), (.range, 7), (.full, 8), (.unknown, 10),
    (.busy, 11)]

/-- The effects of a DONE confirmation, and their codes in the marks byte (R189). -/
def effectCodes : List (Option Effect × Nat) :=
  [(none, 0), (some .applied, 1), (some .discarded, 2), (some .kept, 3), (some .yielded, 4), (some .none, 5)]

/-- What became of a notice that a request offers, and its codes (R189). -/
def fateCodes : List (Option Fate × Nat) := [(none, 0), (some .posted, 1), (some .dropped, 2)]

/-- The codes of a record state, 0 for absent (R189, R190). -/
def stateCodes : List (Option RecordState × Nat) :=
  [(none, 0), (some .expected, 1), (some .active, 2), (some .transit, 3), (some .lost, 4)]

/-- The frame of a confirmation (R187, R189): kind, length, outcome, marks with ADJUSTED in bit 0 and the effect in bits 1 to 3, results.
A refusal has none, and a STALE refusal the stored sequence. -/
def ConfirmationBytes : Prop :=
  ∀ kind : Nat,
    (∀ w ∈ reasonCodes, Confirmation.bytes ⟨kind, .refused w.1⟩ = byte1 kind ++ byte1 2 ++ byte1 w.2 ++ byte1 0)
    ∧ (∀ seq : Nat, Confirmation.bytes ⟨kind, .stale seq⟩ = byte1 kind ++ byte1 3 ++ byte1 9 ++ byte1 0 ++ byte1 seq)
    ∧ (∀ m ∈ effectCodes, ∀ (adjusted : Bool) (result : Result), Confirmation.bytes ⟨kind, .done adjusted m.1 result⟩ =
        byte1 kind ++ byte1 (2 + (result.bytes kind).length) ++ byte1 0 ++ byte1 ((if adjusted = true then 1 else 0) + 2 * m.2)
          ++ result.bytes kind)

/-- The bytes of a notice in a FETCH confirmation (R191): kind, content length, content. -/
def NoticeBytes : Prop :=
  (∀ (unit target generation : Nat) (k : Fin 8), Notice.bytes (.channel (.move unit target k generation)) =
    byte1 1 ++ byte1 7 ++ byte3 unit ++ byte2 target ++ byte1 k.val ++ byte1 generation)
  ∧ (∀ unit : Nat, Notice.bytes (.channel (.poll unit)) = byte1 2 ++ byte1 3 ++ byte3 unit)
  ∧ (∀ c ∈ classCodes, ∀ (unit asking target generation seq : Nat) (k : Fin 8) (tgs : List Nat),
    Notice.bytes (.link (.ask unit asking target k generation c.1 seq tgs)) =
      byte1 16 ++ byte1 (12 + 2 * tgs.length) ++ byte3 unit ++ byte2 asking ++ byte2 target ++ byte1 k.val ++ byte1 generation
        ++ byte1 c.2 ++ byte1 seq ++ byte1 tgs.length ++ tgs.flatMap byte2)
  ∧ (∀ (unit asking target generation : Nat) (k : Fin 8), Notice.bytes (.link (.cancel unit asking target k generation)) =
    byte1 17 ++ byte1 9 ++ byte3 unit ++ byte2 asking ++ byte2 target ++ byte1 k.val ++ byte1 generation)
  ∧ (∀ (unit site seq : Nat) (fresh : Bool), Notice.bytes (.link (.claim unit site seq fresh)) =
    byte1 18 ++ byte1 7 ++ byte3 unit ++ byte2 site ++ byte1 seq ++ byte1 (if fresh = true then 1 else 0))
  ∧ (∀ unit holding seq answered : Nat, Notice.bytes (.link (.counterclaim unit holding seq answered)) =
    byte1 19 ++ byte1 8 ++ byte3 unit ++ byte2 holding ++ byte1 seq ++ byte2 answered)
  ∧ (∀ tg site : Nat, Notice.bytes (.link (.join tg site)) = byte1 20 ++ byte1 4 ++ byte2 tg ++ byte2 site)
  ∧ (∀ tg site : Nat, Notice.bytes (.link (.leave tg site)) = byte1 21 ++ byte1 4 ++ byte2 tg ++ byte2 site)
  ∧ (∀ site : Nat, Notice.bytes (.link (.refresh site)) = byte1 22 ++ byte1 2 ++ byte2 site)
  ∧ (∀ a ∈ ([(.tableFull, 1), (.mapFull, 2), (.portMuted 0, 3), (.portMuted 1, 4), (.portMuted 2, 5), (.portMuted 3, 6),
      (.linkClosed, 7), (.neighbourDown, 8)] : List (AlarmKey × Nat)), ∀ repeats detail : Nat,
    Notice.bytes (.alarm ⟨a.1, repeats, detail⟩) = byte1 32 ++ byte1 5 ++ byte1 a.2 ++ byte1 repeats ++ byte3 detail)

/-- The results of REGISTER, MEASURE, CLAIM IN, ASK IN, ANSWER and FETCH from byte 4 on (R189, R191). The results of a kind that no rule
lays out are at most 253 bytes (log entry 11). -/
def ResultBytes : Prop :=
  ∀ kind : Nat,
    (∀ g ∈ ([(.new, 1), (.arrived, 2), (.refreshed, 3), (.renewed, 4), (.superseded, 5), (.reactivated, 6)] :
        List (Registration × Nat)), ∀ c ∈ fateCodes, ∀ r : RegisterResult, r.registration = g.1 → r.cancel = c.1 →
      Result.bytes kind (.registered r) = byte1 g.2 ++ byte2 r.index.val ++ byte1 r.seq
        ++ byte1 (if r.claimPending = true then 1 else 0) ++ byte1 r.sample ++ byte1 r.weight ++ byte2 r.home ++ byte1 c.2
        ++ byte1 r.grant.length ++ r.grant.flatMap byte2)
    ∧ (∀ (x w code : Nat) (target : Option EstimateTarget) (estimate displaced : Option Nat),
      (target = none ∧ code = 65535 ∨ target = some .home ∧ code = 0 ∨ target = some (.site code)) →
      Result.bytes kind (.measured x w target estimate displaced) =
        byte1 x ++ byte1 w ++ byte2 code ++ byte2 (estimate.getD 65535) ++ byte2 (displaced.getD 0))
    ∧ (∀ p ∈ stateCodes, ∀ c ∈ fateCodes, ∀ seq : Option Nat,
      Result.bytes kind (.claimSettled p.1 seq c.1) = byte1 p.2 ++ byte1 (seq.getD 0) ++ byte1 c.2)
    ∧ (∀ a ∈ ([(.accept, 0), (.refuseFull, 8), (.refusePresent, 12)] : List (AskAnswer × Nat)), ∀ p ∈ stateCodes,
      ∀ (index : Option Index) (seq : Option Nat), Result.bytes kind (.asked a.1 index p.1 seq) =
        byte1 a.2 ++ byte2 ((index.map (fun i => i.val)).getD 65535) ++ byte1 p.2 ++ byte1 (seq.getD 0))
    ∧ (∀ a ∈ ([(.ended, 1, 0, 0, 0), (.held .call, 2, 1, 0, 0), (.held .room, 2, 2, 0, 0), (.ordered, 3, 0, 1, 0),
        (.abandoned .posted, 4, 0, 0, 1), (.abandoned .dropped, 4, 0, 0, 2)] : List (AnswerResult × Nat × Nat × Nat × Nat)),
      Result.bytes kind (.answered a.1) = byte1 a.2.1 ++ byte1 a.2.2.1 ++ byte1 a.2.2.2.1 ++ byte1 a.2.2.2.2)
    ∧ (∀ (notices : List Notice) (left : Nat), Result.bytes kind (.fetched notices left) =
      byte1 notices.length ++ byte1 left ++ notices.flatMap Notice.bytes)
    ∧ (∀ result : Result, result.laidOut = none → (result.bytes kind).length ≤ 253)

/-- The results of READ RECORD from byte 4 on (R190). The codes of the hold reason and of absent values are log entry 20. -/
def RecordBytes : Prop :=
  ∀ (kind : Nat) (i : Index) (r : Record) (t : Option TransactionItems) (items : List Byte),
    (t = none ∧ items = byte1 0
      ∨ ∃ x, t = some x ∧ ∃ p ∈ ([(.asked, 1, 0), (.held .call, 2, 1), (.held .room, 2, 2), (.ordered, 3, 0)] :
          List (Phase × Nat × Nat)), x.phase = p.1 ∧ items = byte1 1 ++ byte1 p.2.1 ++ byte1 x.slot.val ++ byte1 x.generation
            ++ byte2 x.target ++ byte1 p.2.2 ++ byte1 x.remaining) →
    ∀ st ∈ stateCodes, ∀ c ∈ classCodes, some r.state = st.1 → r.cls = c.1 →
      Result.bytes kind (.record i r t) = byte2 i.val ++ byte1 st.2 ++ byte3 r.unit ++ byte1 c.2 ++ byte1 r.seq
        ++ byte1 ((r.serving.map (fun d => d.val + 1)).getD 0)
        ++ byte1 ((if r.heard = true then 1 else 0) + (if r.inCall = true then 2 else 0) + (if r.queued = true then 4 else 0)
          + (if r.claimPending = true then 8 else 0) + (if r.stamp = .odd then 16 else 0))
        ++ byte1 ((List.finRange 8).foldl (fun n k => 2 * n + (if r.history[k] = true then 1 else 0)) 0)
        ++ byte2 (r.home.getD 65535) ++ byte2 (r.target.getD 0) ++ byte1 r.stateAge ++ byte2 (r.origin.getD 0)
        ++ byte1 r.talkgroups.length ++ r.talkgroups.flatMap byte2 ++ byte1 r.neighbours.length
        ++ r.neighbours.flatMap (fun e => byte2 e.site ++ byte2 e.estimate ++ byte1 e.age ++ byte1 e.better ++ byte1 e.cooldown)
        ++ items

/-! ## The end of a step -/

/-- Nothing is left to follow an event: no sweep to end, no place to grant, every attention line as its conditions have it
(R75, R145, R175, R176). -/
structure Settled (s : State) : Prop where
  sweep : ¬(s.sweep.inFlight = true ∧ s.sweep.unvisited = 0)
  arbiter : s.grantPlace = none
  lines : s.refreshLines = s

/-- The fields of a record that no grant writes: all but the state, the slot, the queue marks and the claim mark (R66, R95). -/
def Record.keptBy (r q : Record) : Prop :=
  q = { r with state := q.state, slot := q.slot, queued := q.queued, target := q.target, claimPending := q.claimPending }

/-- The fields of a map entry that no grant writes: all but announced and leave owed (R126, R127). -/
def MapEntry.body (e : MapEntry) : Nat × Nat × MapPhase := (e.talkgroup, e.count, e.phase)

/-- Places of the link queue granted one after another, each to the producer that grantPlace serves, until none can be granted
(R145). -/
inductive GrantRun : State → State → Prop where
  | done {s : State} : s.grantPlace = none → GrantRun s s
  | place {s u t : State} : s.grantPlace = some u → GrantRun u t → GrantRun s t

/-- What the end of a step leaves alone: all but a finished sweep (R75), what grants write (R145, R146) and the attention lines
(R175, R176). -/
structure EndOfStepFrame (s t : State) : Prop where
  pending : t.pending = s.pending
  resetPinLow : t.resetPinLow = s.resetPinLow
  scoring : t.scoring = s.scoring
  neighbours : t.neighbours = s.neighbours
  profiles : t.profiles = s.profiles
  protection : t.protection = s.protection
  chains : t.visitors.chains = s.visitors.chains
  age : t.visitors.age = s.visitors.age
  free : t.visitors.free = s.visitors.free
  reserve : t.visitors.reserve = s.visitors.reserve
  alarms : t.ports.maintenance.alarms = s.ports.maintenance.alarms
  isOpen : t.ports.link.isOpen = s.ports.link.isOpen
  allowance : t.ports.allowance = s.ports.allowance
  threshold : t.ports.threshold = s.ports.threshold
  channelState : ∀ c : Fin 4, t.ports.channels[c].state = s.ports.channels[c].state
  channelQueue : ∀ c : Fin 4, t.ports.channels[c].queue = s.ports.channels[c].queue
  outbound : ∀ p : Port, t.outbound p = s.outbound p
  sweepTimer : t.sweep.timer = s.sweep.timer
  /-- Only a sweep that has nothing left to visit is touched, and only a sweep that starts behind it sets the chatter counts. -/
  sweep : ¬(s.sweep.inFlight = true ∧ s.sweep.unvisited = 0) →
    t.sweep = s.sweep ∧ ∀ c : Fin 4, t.ports.channels[c].chatter = s.ports.channels[c].chatter
  /-- Grants only append to the link queue. -/
  posted : ∃ l : List LinkNotice, t.ports.link.queue = s.ports.link.queue ++ l.map (fun n => ⟨n, 0⟩)
  refreshOwed : s.ports.link.refreshOwed = false → t.ports.link.refreshOwed = false
  vacant : ∀ i : Index, s.record? i = none → t.record? i = none
  record : ∀ (i : Index) (r : Record), s.record? i = some r → ∃ q, t.record? i = some q ∧ r.keptBy q
  /-- A record in no class queue is granted no slot. -/
  bystander : ∀ (i : Index) (r : Record), s.record? i = some r → (∀ c : Fin 4, i ∉ s.handover.queues[c]) →
    ∃ q, t.record? i = some q ∧ q = { r with claimPending := q.claimPending }
  /-- A record off the pending-claims list keeps its claim mark. -/
  unclaimed : ∀ (i : Index) (r : Record), s.record? i = some r → i ∉ s.claims.map PendingClaim.index →
    ∃ q, t.record? i = some q ∧ q.claimPending = r.claimPending
  queues : ∀ c : Fin 4, (t.handover.queues[c]).Sublist s.handover.queues[c]
  /-- A slot that is in use is not touched. -/
  slots : ∀ (k : Fin 8) (x : Transaction), s.handover.slots[k].transaction = some x → t.handover.slots[k] = s.handover.slots[k]
  claims : t.claims <:+ s.claims
  owedLeaves : t.interest.owedLeaves <:+ s.interest.owedLeaves
  leaving : t.interest.leaving = s.interest.leaving
  places : ∀ k : Place, t.interest.places[k].map MapEntry.body = s.interest.places[k].map MapEntry.body
  /-- With no room in the link queue nothing is granted. -/
  noRoom : s.linkHasRoom = false →
    t.visitors = s.visitors ∧ t.claims = s.claims ∧ t.handover = s.handover ∧ t.interest = s.interest
      ∧ t.ports.link.queue = s.ports.link.queue ∧ t.ports.link.refreshOwed = s.ports.link.refreshOwed

/-- The second state is the first as the end of a step leaves it: a finished sweep ended (R75), then places of the link queue granted
until none can be (R145, R146), then every attention line recomputed (R175, R176), and everything else as it was. -/
structure UpToGrants (s t : State) : Prop extends EndOfStepFrame s t where
  reached : ∃ u : State, GrantRun s.checkSweep u ∧ t = u.refreshLines

end Sys2Proof.Machine
end

