-- ==== Sys2Proof/Certificates/Slice0/Obligations.lean ====
section
/-! DEFINITION. The statements about the model, one definition each (OBLIGATIONS.json lists them). -/

open Sys2Proof Sys2Proof.Machine

/-! ## The machine -/

/-- A step takes the command at the front of the queue and is exec of it on the state with the queue's rest. The one queue of commands,
first in first out, is the model's choice (log entry 1). -/
def Obligations.StepRunsFrontCommand : Prop :=
  ∀ (c : Instr) (s : State), step { s with pending := c :: s.pending } = exec c s

/-- A step on an empty queue is 10 ms of time (the model's choice, log entry 2): the sweep timer, the transaction timers, the leave timers
and the waits of link notices move on by 10 ms, a step of them being 25, 10 and 100 such units (log entries 6 and 7); every expiry that is
due, and a visit while a sweep is in flight, is put into the queue, in an order that is the model's (log entry 3); every attention line
stands as its conditions have it, and nothing else changes. ASK, CANCEL, CLAIM and COUNTERCLAIM are urgent, JOIN, LEAVE and REFRESH are
not, and the thresholds of the link line are 16, 32, 48 and 64 notices. -/
def Obligations.IdleStepIsTenMilliseconds : Prop :=
  (∀ s : State, s.pending = [] → s.resetPinLow = false →
    ∃ t, step s = .next t ∧ t.visitors = s.visitors ∧ t.scoring = s.scoring ∧ t.claims = s.claims ∧ t.neighbours = s.neighbours
      ∧ t.profiles = s.profiles ∧ t.protection = s.protection ∧ t.resetPinLow = false ∧ t.handover.queues = s.handover.queues
      ∧ (∀ k : Fin 8, t.handover.slots[k] = ⟨s.handover.slots[k].generation, s.handover.slots[k].transaction.map (fun x =>
          { x with timer := if x.timer.counted + 1 < 10 then ⟨x.timer.steps, x.timer.counted + 1⟩ else ⟨x.timer.steps - 1, 0⟩ })⟩)
      ∧ t.interest.leaving = s.interest.leaving ∧ t.interest.owedLeaves = s.interest.owedLeaves
      ∧ (∀ k : Place, t.interest.places[k] = s.interest.places[k].map (fun e =>
          match e.phase with
          | .joined => e
          | .leaving x =>
            { e with phase := .leaving (if x.counted + 1 < 100 then ⟨x.steps, x.counted + 1⟩ else ⟨x.steps - 1, 0⟩) }))
      ∧ t.sweep = { s.sweep with timer :=
          if s.sweep.timer.counted + 1 < 25 then ⟨s.sweep.timer.steps, s.sweep.timer.counted + 1⟩ else ⟨s.sweep.timer.steps - 1, 0⟩ }
      ∧ t.ports.link = { s.ports.link with
          queue := s.ports.link.queue.map (fun q => { q with waited := q.waited + 1 }), attention := t.ports.link.attention }
      ∧ (t.ports.link.attention = true ↔ (∃ q ∈ s.ports.link.queue, q.notice.urgent = true)
          ∨ s.ports.threshold.count ≤ s.ports.link.queue.length
          ∨ ∃ q rest, s.ports.link.queue = q :: rest ∧ s.selected.flushTime ≤ q.waited + 1)
      ∧ t.ports.maintenance = { s.ports.maintenance with attention := !s.ports.maintenance.alarms.isEmpty }
      ∧ (∀ c : Fin 4, t.ports.channels[c] = { s.ports.channels[c] with attention := !s.ports.channels[c].queue.isEmpty })
      ∧ t.ports.allowance = s.ports.allowance ∧ t.ports.threshold = s.ports.threshold
      ∧ (Instr.sweepTimerExpiry ∈ t.pending ↔ t.sweep.timer.steps = 0)
      ∧ (Instr.visit ∈ t.pending ↔ t.sweep.inFlight = true)
      ∧ (∀ k : Fin 8, Instr.answerTimerExpiry k ∈ t.pending ↔
          (t.handover.slots[k].transaction.any (fun x => x.phase == .asked && x.timer.steps == 0)) = true)
      ∧ (∀ k : Fin 8, Instr.holdTimerExpiry k ∈ t.pending ↔
          (t.handover.slots[k].transaction.any (fun x => (x.phase == .held .call || x.phase == .held .room) && x.timer.steps == 0)) = true)
      ∧ (∀ k : Fin 8, Instr.claimTimerExpiry k ∈ t.pending ↔
          (t.handover.slots[k].transaction.any (fun x => x.phase == .ordered && x.timer.steps == 0)) = true)
      ∧ (∀ tg : Nat, Instr.leaveTimerExpiry tg ∈ t.pending ↔
          ∃ k ∈ t.interest.leaving, ∃ (e : MapEntry) (x : Timer), t.interest.places[k] = some e ∧ e.talkgroup = tg ∧ e.phase = .leaving x
            ∧ x.steps = 0)
      ∧ (∀ i ∈ t.pending, i = .sweepTimerExpiry ∨ i = .visit
          ∨ (∃ k : Fin 8, i = .answerTimerExpiry k ∨ i = .holdTimerExpiry k ∨ i = .claimTimerExpiry k)
          ∨ ∃ tg : Nat, i = .leaveTimerExpiry tg))
  ∧ (∀ n : LinkNotice, n.urgent = true ↔
      (∃ unit asking target k generation cls seq tgs, n = .ask unit asking target k generation cls seq tgs)
      ∨ (∃ unit asking target k generation, n = .cancel unit asking target k generation)
      ∨ (∃ unit site seq fresh, n = .claim unit site seq fresh)
      ∨ ∃ unit holding seq answered, n = .counterclaim unit holding seq answered)
  ∧ (∀ n : LinkNotice, n.urgent = false ↔
      (∃ tg site, n = .join tg site) ∨ (∃ tg site, n = .leave tg site) ∨ ∃ site, n = .refresh site)
  ∧ (Threshold.quarter.count = 16 ∧ Threshold.half.count = 32 ∧ Threshold.threeQuarters.count = 48 ∧ Threshold.full.count = 64)

/-- POWER ON leaves every block in its power-on state, whatever stood before. The commands that wait are outside the engine and stay (the
model's choice, log entry 1), no part of the sweep timer's first step has been counted (log entry 6), and a POWER ON with the RESET pin
not low before it is the same (log entry 26). -/
def Obligations.PowerOnIsEveryBlocksPowerOnState : Prop :=
  (∀ s : State, exec .powerOn s = .next { State.reset with pending := s.pending })
  ∧ (State.reset.visitors.free = List.finRange 384 ∧ State.reset.visitors.age = [] ∧ (∀ i : Index, State.reset.record? i = none)
    ∧ (∀ b : Fin 127, State.reset.visitors.chains[b] = []) ∧ State.reset.visitors.reserve = 32)
  ∧ ((∀ i : Fin 61, State.reset.scoring.levels[i] = ⟨4 * i.val, if i.val ≤ 9 then 8 else 16⟩)
    ∧ (∀ g : Fin 16, State.reset.scoring.penalties[g] = 8 * g.val))
  ∧ (State.reset.claims = [] ∧ State.reset.sweep = ⟨⟨8, 0⟩, .even, false, 0, false, none⟩)
  ∧ ((∀ c : Fin 4, State.reset.handover.queues[c] = []) ∧ (∀ k : Fin 8, State.reset.handover.slots[k] = ⟨0, none⟩))
  ∧ ((∀ k : Place, State.reset.interest.places[k] = none) ∧ State.reset.interest.leaving = [] ∧ State.reset.interest.owedLeaves = [])
  ∧ ((∀ k : Fin 12, State.reset.neighbours[k] = none) ∧ State.reset.profiles.selection = .normal
    ∧ State.reset.profiles.incident = false
    ∧ State.reset.profiles.normal = ⟨8, 4, 8, 3, 20, 4, 30, 10, 6, 10, 20, 80, 100, 30, 20⟩
    ∧ State.reset.profiles.incidentProfile = ⟨4, 8, 12, 5, 30, 6, 120, 20, 8, 6, 15, 60, 150, 120, 5⟩)
  ∧ ((∀ c : Fin 4, State.reset.ports.channels[c] = ⟨.closed, 0, [], false, []⟩) ∧ State.reset.ports.link = ⟨false, [], false, false, []⟩
    ∧ State.reset.ports.maintenance = ⟨[], false, []⟩ ∧ State.reset.ports.allowance = 256 ∧ State.reset.ports.threshold = .half)
  ∧ (State.reset.protection = ⟨0, ⟨false, false, false, false⟩, ⟨false, true, true, false⟩⟩)

/-- The RESET pin driven low puts every attention line low and abandons every confirmation, and leaves every block but the port unit as
it is; while it is low no command but POWER ON changes anything and no timer runs (log entry 13: what the blocks hold then cannot be
seen). -/
def Obligations.ResetPinLowSilencesEngine : Prop :=
  (∀ s : State, ∃ t, exec .resetPinLow s = .next t ∧ t.resetPinLow = true
    ∧ t.ports.maintenance.attention = false ∧ t.ports.link.attention = false ∧ (∀ c : Fin 4, t.ports.channels[c].attention = false)
    ∧ (∀ p : Port, t.outbound p = []) ∧ BlocksKept { s with resetPinLow := true } t)
  ∧ (∀ s : State, s.resetPinLow = true →
    (∀ c : Instr, c ≠ .powerOn → c ≠ .resetPinLow → exec c s = .next s) ∧ (s.pending = [] → step s = .next s))

/-! ## Frames and the order of checks -/

/-- Every request that fits its frame is read back from its frame, field by field, bit by bit. A frame is the kind code, the body length
and the body of R188, and the operand codes are those of R187. In the bodies that R188 does not lay out the order of the fields is the
model's (log entry 10). -/
def Obligations.EncodedRequestDecodes : Prop :=
  (∀ r : Request, r.wf = true → decodeFrame (bytesOfBits (bitsOfBytes r.frame)) = some r)
  ∧ RequestFrames ∧ KindCodes ∧ OperandCodes

/-- A frame that passes FORMAT, and that did not begin too early, is taken as the request it carries, and the step completes: the
frame that the encoder writes for a request, and any run of bits that decodes to one. That a whole frame and its request are one step,
and the order of the fields that R188 does not lay out, are the model's (log entries 8 and 10). -/
def Obligations.FrameIsServedAsItsRequest : Prop :=
  (∀ (r : Request) (p : Port) (s : State), r.wf = true →
    exec (.format p (bitsOfBytes r.frame) false) s = exec (r.command p) s
    ∧ ∃ t, exec (.format p (bitsOfBytes r.frame) false) s = .next t)
  ∧ (∀ (bits : List Bool) (r : Request) (p : Port) (s : State), decodeFrame (bytesOfBits bits) = some r →
    exec (.format p bits false) s = exec (r.command p) s ∧ ∃ t, exec (.format p bits false) s = .next t)

/-- A frame of at least one whole byte that fails FORMAT, or that began before the previous confirmation was out, is refused
FORMAT with its kind byte as received, and changes nothing else. A frame of no whole byte is ignored. A request taken while a
confirmation still waits on its port is refused FORMAT as well, in every port state (log entry 9). -/
def Obligations.BadFrameIsRefusedFormat : Prop :=
  (∀ (p : Port) (bits : List Bool) (early : Bool) (s : State), Settled s → s.resetPinLow = false →
    (∀ (kind : Byte) (rest : List Byte), bytesOfBits bits = kind :: rest → (early = true ∨ decodeFrame (kind :: rest) = none) →
      exec (.format p bits early) s = .next (s.confirm p ⟨kind.toNat, .refused .format⟩))
    ∧ (bytesOfBits bits = [] → exec (.format p bits early) s = .next s))
  ∧ (∀ (r : Request) (p : Port) (s : State), Settled s → s.resetPinLow = false → s.outbound p ≠ [] →
    exec (r.command p) s = .next (s.confirm p ⟨r.kind.code, .refused .format⟩))

/-- A request of a kind that the port's role does not admit is refused ROLE; on a CLOSED port every kind but OPEN and CLOSE is
refused CLOSED; on a MUTED port every kind but FETCH and CLOSE is refused MUTED. Nothing else changes. -/
def Obligations.RoleAndPortStateAreChecked : Prop :=
  ∀ (r : Request) (p : Port) (s : State), Settled s → s.resetPinLow = false → s.outbound p = [] → r.wf = true →
    (r.kind ∉ admittedKinds p → exec (r.command p) s = .next (s.confirm p ⟨r.kind.code, .refused .role⟩))
    ∧ (r.kind ∈ admittedKinds p →
      (s.portState p = .closed → r.kind ≠ .openPort → r.kind ≠ .closePort →
        exec (r.command p) s = .next (s.confirm p ⟨r.kind.code, .refused .closed⟩))
      ∧ (s.portState p = .muted → r.kind ≠ .fetch → r.kind ≠ .closePort →
        exec (r.command p) s = .next (s.confirm p ⟨r.kind.code, .refused .muted⟩)))

/-- A counted request that finds the chatter allowance reached mutes its port, raises PORT_MUTED and is refused MUTED, uncounted. -/
def Obligations.AllowanceReachedMutesPort : Prop :=
  ∀ (r : Request) (c : Fin 4) (s : State), Settled s → s.resetPinLow = false → s.outbound (.channel c) = [] → r.wf = true →
    r.kind ∈ countedKinds → s.ports.channels[c].state = .opened →
    s.ports.allowance ≤ s.ports.channels[c].chatter →
    exec (r.command (.channel c)) s = .next
      (((s.modifyChannel c (fun p => { p with state := .muted })).raiseAlarm (.portMuted c) (c.val + 1)).reply (.channel c) r.kind
        (.refused .muted))

/-- A counted request that passes the chatter test raises the count of its port by 1, whether it is then done or refused; only a
sweep that starts in the same step sets it to 0 again. -/
def Obligations.CountedRequestRaisesChatter : Prop :=
  ∀ (r : Request) (c : Fin 4) (s : State), s.resetPinLow = false → s.outbound (.channel c) = [] → r.wf = true →
    r.kind ∈ countedKinds → s.ports.channels[c].state = .opened →
    s.ports.channels[c].chatter < s.ports.allowance →
    ∃ t, exec (r.command (.channel c)) s = .next t ∧ t.ports.channels[c].state = .opened
      ∧ (t.sweep.parity = s.sweep.parity → t.ports.channels[c].chatter = s.ports.channels[c].chatter + 1)

/-- A request of a lock group is refused LOCKED while the group's own lock is set, or the incident flag and the group's mark are;
SITE RESET without the force mark is refused LOCKED while the flag is set. Nothing else changes. -/
def Obligations.LockedGroupRefuses : Prop :=
  ∀ (r : Request) (s : State), Settled s → s.resetPinLow = false → s.outbound .maintenance = [] → r.wf = true →
    ((r.kind = .loadLevelTable ∨ r.kind = .loadErrorTable)
        ∧ (s.protection.own.tables = true ∨ (s.profiles.incident = true ∧ s.protection.marks.tables = true))
      ∨ r.kind = .setProfileField
        ∧ (s.protection.own.profiles = true ∨ (s.profiles.incident = true ∧ s.protection.marks.profiles = true))
      ∨ r.kind = .setNeighbour
        ∧ (s.protection.own.neighbours = true ∨ (s.profiles.incident = true ∧ s.protection.marks.neighbours = true))
      ∨ r.kind = .setLimits
        ∧ (s.protection.own.limits = true ∨ (s.profiles.incident = true ∧ s.protection.marks.limits = true))
      ∨ r = .siteReset false ∧ s.profiles.incident = true) →
    exec (r.command .maintenance) s = .next (s.confirm .maintenance ⟨r.kind.code, .refused .locked⟩)

/-- A request that passes steps 1 to 6 and is out of range by its own rule is refused RANGE, and nothing else changes; a counted one has
been counted. First each request that names unit ID 0 or 16,777,215; then every request, by unit ID, site, slot, class, sequence, source,
state, answer, profile and field codes, load runs, limits, group selections and port numbers. -/
def Obligations.UnitOutOfRangeIsRefused : Prop :=
  ∀ (unit : Nat) (s : State) (c : Fin 4), Settled s → (unit = 0 ∨ unit = 16777215) →
    (Passes s .deregister (.channel c) →
      exec (.deregister (.channel c) unit) s = .next (s.confirm (.channel c) ⟨17, .refused .range⟩))
    ∧ (Passes s .readRecord .maintenance →
      exec (.readRecord .maintenance unit) s = .next (s.confirm .maintenance ⟨80, .refused .range⟩))
    ∧ (∀ f : ClaimFields, f.unit = unit → Passes s .claimIn .link →
      exec (.claimIn .link f) s = .next (s.confirm .link ⟨32, .refused .range⟩))
    ∧ (∀ f : AskFields, f.unit = unit → f.talkgroups.length ≤ 15 → Passes s .askIn .link →
      exec (.askIn .link f) s = .next (s.confirm .link ⟨33, .refused .range⟩))
    ∧ (∀ f : AnswerFields, f.unit = unit → Passes s .answer .link →
      exec (.answer .link f) s = .next (s.confirm .link ⟨34, .refused .range⟩))
    ∧ (Passes s .callStart (.channel c) →
      exec (.callStart (.channel c) unit) s = .next ((s.chattered c).confirm (.channel c) ⟨19, .refused .range⟩))
    ∧ (Passes s .callEnd (.channel c) →
      exec (.callEnd (.channel c) unit) s = .next ((s.chattered c).confirm (.channel c) ⟨20, .refused .range⟩))
    ∧ (∀ f : MeasureFields, f.unit = unit → Passes s .measure (.channel c) →
      exec (.measure (.channel c) f) s = .next ((s.chattered c).confirm (.channel c) ⟨18, .refused .range⟩))
    ∧ (∀ f : RegisterFields, f.unit = unit → f.talkgroups.length ≤ 15 → Passes s .register (.channel c) →
      exec (.register (.channel c) f) s = .next ((s.chattered c).confirm (.channel c) ⟨16, .refused .range⟩))
    ∧ (∀ r : Request, r.wf = true → NeighboursSound s → s.outOfRange r →
      (∀ p : Port, Passes s r.kind p → r.kind ∉ countedKinds →
        exec (r.command p) s = .next (s.confirm p ⟨r.kind.code, .refused .range⟩))
      ∧ (Passes s r.kind (.channel c) → r.kind ∈ countedKinds →
        exec (r.command (.channel c)) s = .next ((s.chattered c).confirm (.channel c) ⟨r.kind.code, .refused .range⟩)))

/-- A lookup of a unit ID finds the occupied record that holds it, in a table that is sound, and none when no record does. A MEASURE, CALL
START, CALL END, DEREGISTER or READ RECORD for a unit ID that no occupied record holds is refused UNKNOWN; a counted one has been counted,
and nothing else changes. -/
def Obligations.UnknownUnitIsRefused : Prop :=
  (∀ (unit : Nat) (s : State), TableSound s.visitors →
    (∀ (i : Index) (r : Record), s.find unit = some (i, r) ↔ s.record? i = some r ∧ r.unit = unit)
    ∧ (s.find unit = none ↔ ∀ (i : Index) (r : Record), s.record? i = some r → r.unit ≠ unit))
  ∧ ∀ (unit : Nat) (s : State) (c : Fin 4), Settled s → NamesRadio unit → s.find unit = none →
    (Passes s .deregister (.channel c) →
      exec (.deregister (.channel c) unit) s = .next (s.confirm (.channel c) ⟨17, .refused .unknown⟩))
    ∧ (Passes s .readRecord .maintenance →
      exec (.readRecord .maintenance unit) s = .next (s.confirm .maintenance ⟨80, .refused .unknown⟩))
    ∧ (Passes s .callStart (.channel c) →
      exec (.callStart (.channel c) unit) s = .next ((s.chattered c).confirm (.channel c) ⟨19, .refused .unknown⟩))
    ∧ (Passes s .callEnd (.channel c) →
      exec (.callEnd (.channel c) unit) s = .next ((s.chattered c).confirm (.channel c) ⟨20, .refused .unknown⟩))
    ∧ (∀ f : MeasureFields, f.unit = unit → (f.source = 0 ∨ f.source = 1 ∧ 1 ≤ f.site ∧ f.site ≤ 1023) → Passes s .measure (.channel c) →
      exec (.measure (.channel c) f) s = .next ((s.chattered c).confirm (.channel c) ⟨18, .refused .unknown⟩))

/-! ## Ports -/

/-- FETCH returns and removes the oldest notices of its own port's queue, up to the clamped count. What grants or MOVE attempts post
into the room joins behind the rest; with no slot HELD for room on the port the step does nothing else. A FETCH that removes notices of a
channel port lets the slots HELD for room there make their MOVE attempts, lowest slot first; one that removes none lets no slot go. -/
def Obligations.FetchReturnsOldestNotices : Prop :=
  ∀ (p : Port) (count n : Nat) (s : State), Passes s .fetch p → n = max 1 (min 8 count) →
    (∃ t posted, exec (.fetch p count) s = .next t
      ∧ t.outbound p = [⟨1, .done (n != count) none (.fetched ((s.notices p).take n) ((s.notices p).length - n))⟩]
      ∧ t.notices p = (s.notices p).drop n ++ posted
      ∧ t.visitors.age = s.visitors.age ∧ t.visitors.free = s.visitors.free ∧ t.neighbours = s.neighbours ∧ ConfigKept s t)
    ∧ ((∀ (c : Fin 4) (k : Fin 8), p = .channel c → s.heldForRoom c k = false) →
      ∃ t, exec (.fetch p count) s = .next t ∧ UpToGrants ((s.dropNotices n p).confirm p
        ⟨1, .done (n != count) none (.fetched ((s.notices p).take n) ((s.notices p).length - n))⟩) t)
    ∧ (∀ c : Fin 4, p = .channel c → s.ports.channels[c].queue ≠ [] →
      ∃ t, exec (.fetch p count) s = .next t ∧ UpToGrants (((s.dropNotices n p).attemptsForRoom c).confirm p
        ⟨1, .done (n != count) none (.fetched ((s.notices p).take n) ((s.notices p).length - n))⟩) t)
    ∧ (s.notices p = [] → ∃ t, exec (.fetch p count) s = .next t ∧ UpToGrants (s.confirm p ⟨1, .done (n != count) none (.fetched [] 0)⟩) t)

/-- OPEN on a channel port that is CLOSED or OPEN leaves it OPEN: from CLOSED with chatter count 0, from OPEN with its queue emptied
and its count kept; then the slots HELD for room on the port make their MOVE attempts, lowest slot first. On a CLOSED port, channel or
link, it is refused NOT_READY while the site number is 0. -/
def Obligations.OpenOpensChannelPort : Prop :=
  (∀ (c : Fin 4) (s : State), Passes s .openPort (.channel c) →
    (∃ t posted, exec (.openPort (.channel c)) s = .next t ∧ t.ports.channels[c].state = .opened
      ∧ (s.ports.channels[c].state = .closed → t.ports.channels[c].queue = s.ports.channels[c].queue ++ posted
          ∧ t.outbound (.channel c) = [⟨2, .done false none (.opened .closed none)⟩])
      ∧ (s.ports.channels[c].state = .opened → t.ports.channels[c].queue = posted
          ∧ t.outbound (.channel c) = [⟨2, .done false none (.opened .opened (some s.ports.channels[c].queue.length))⟩])
      ∧ t.visitors.age = s.visitors.age ∧ t.neighbours = s.neighbours ∧ ConfigKept s t)
    ∧ (Settled s → (∀ k : Fin 8, s.heldForRoom c k = false) →
      (s.ports.channels[c].state = .closed → exec (.openPort (.channel c)) s = .next
        ((s.modifyChannel c (fun p => { p with state := .opened, chatter := 0 })).reply (.channel c) .openPort
          (.done false none (.opened .closed none))))
      ∧ (s.ports.channels[c].state = .opened → exec (.openPort (.channel c)) s = .next
        ((s.modifyChannel c (fun p => { p with queue := [] })).reply (.channel c) .openPort
          (.done false none (.opened .opened (some s.ports.channels[c].queue.length))))))
    ∧ (∃ t, exec (.openPort (.channel c)) s = .next t
      ∧ (s.ports.channels[c].state = .closed → UpToGrants
        (((s.modifyChannel c (fun p => { p with state := .opened, chatter := 0 })).attemptsForRoom c).confirm (.channel c)
          ⟨2, .done false none (.opened .closed none)⟩) t)
      ∧ (s.ports.channels[c].state = .opened → UpToGrants
        (((s.modifyChannel c (fun p => { p with queue := [] })).attemptsForRoom c).confirm (.channel c)
          ⟨2, .done false none (.opened .opened (some s.ports.channels[c].queue.length))⟩) t)))
  ∧ (∀ (p : Port) (s : State), Settled s → s.resetPinLow = false → s.outbound p = [] → p ≠ .maintenance →
    s.portState p = .closed → s.protection.site = 0 →
    exec (.openPort p) s = .next (s.confirm p ⟨2, .refused .notReady⟩))

/-- OPEN on the link port leaves every map entry not announced and a REFRESH owed; the grants that follow post the REFRESH first. From
CLOSED nothing else changes. On the OPEN port the closure comes first: neighbours DOWN, every ASKED transaction ended by failure with the
refusal cooldown and the others unchanged, the class queues and the link queue empty, the owed LEAVEs gone, the pending claims kept and
LINK_CLOSED raised. An entry made during the transaction takes no cooldown (log entries 24 and 27). -/
def Obligations.OpenLinkPortPostsRefreshFirst : Prop :=
  ∀ s : State, Passes s .openPort .link → (s.ports.link.isOpen = false → s.ports.link.queue = []) →
    ∃ t rest, exec (.openPort .link) s = .next t ∧ t.ports.link.isOpen = true ∧ t.ports.link.refreshOwed = false
      ∧ t.ports.link.queue = ⟨.refresh s.protection.site, 0⟩ :: rest
      ∧ (s.ports.link.isOpen = false → UpToGrants
          ((({ s with interest := { s.interest with
                places := mapTable (Option.map (fun e => { e with announced := false })) s.interest.places } } : State).modifyLink
              (fun p => { p with isOpen := true, refreshOwed := true })).confirm .link
            ⟨2, .done false none (.opened .closed none)⟩) t)
      ∧ (s.ports.link.isOpen = true → (∀ k : Fin 12, t.neighbours[k] = s.neighbours[k].map (fun n => { n with link := .down }))
          ∧ t.ports.maintenance.alarms = raiseIn .linkClosed 2 s.ports.maintenance.alarms
          ∧ t.outbound .link = [⟨2, .done false none (.opened .opened (some s.ports.link.queue.length))⟩])
      ∧ (s.ports.link.isOpen = true → SlotsExact s → ClassQueuesExact s → ∃ u : State,
          UpToGrants (u.confirm .link ⟨2, .done false none (.opened .opened (some s.ports.link.queue.length))⟩) t
          ∧ (∀ k : Fin 12, u.neighbours[k] = s.neighbours[k].map (fun n => { n with link := .down }))
          ∧ (∀ j : Fin 8, s.phase? j = some .asked → u.handover.slots[j] = ⟨s.handover.slots[j].generation, none⟩)
          ∧ (∀ j : Fin 8, s.phase? j ≠ some .asked → u.handover.slots[j] = s.handover.slots[j])
          ∧ (∀ q : Fin 4, u.handover.queues[q] = [])
          ∧ (∀ (j : Fin 8) (x : Transaction) (r : Record), s.handover.slots[j].transaction = some x → x.phase = .asked →
              s.record? x.record = some r → u.record? x.record = some
                { r with
                  state := .active
                  slot := none
                  neighbours := r.neighbours.map (fun e => e.afterEnd x.target (some s.selected.refusalCooldown)) })
          ∧ (∀ (i : Index) (r : Record), s.record? i = some r → (∀ j : Fin 8, r.slot = some j → s.phase? j ≠ some .asked) →
              u.record? i = some { r with queued := false, target := none })
          ∧ (∀ i : Index, s.record? i = none → u.record? i = none)
          ∧ (∀ j : Place, u.interest.places[j] = s.interest.places[j].map (fun e => { e with announced := false, leaveOwed := false }))
          ∧ u.interest.owedLeaves = [] ∧ u.interest.leaving = s.interest.leaving ∧ u.claims = s.claims ∧ u.sweep = s.sweep
          ∧ u.ports.link = { s.ports.link with isOpen := true, queue := [], refreshOwed := true }
          ∧ u.ports.maintenance = { s.ports.maintenance with alarms := raiseIn .linkClosed 2 s.ports.maintenance.alarms }
          ∧ u.ports.channels = s.ports.channels ∧ u.visitors.chains = s.visitors.chains ∧ u.visitors.age = s.visitors.age
          ∧ u.visitors.free = s.visitors.free ∧ ConfigKept s u)
      ∧ t.visitors.age = s.visitors.age ∧ ConfigKept s t

/-- CLOSE on a channel port, and FORCE CLOSE of it, leave it CLOSED in whatever state it was, with an empty queue and its chatter
count; nothing else changes but the attention lines and the confirmation. A FORCE CLOSE of a number outside 1 to 5 is refused
RANGE. -/
def Obligations.CloseClosesChannelPort : Prop :=
  ∀ (c : Fin 4) (s : State), Settled s →
    (Passes s .closePort (.channel c) →
      exec (.closePort (.channel c)) s = .next
        ((s.modifyChannel c (fun p => { p with state := .closed, queue := [] })).reply (.channel c) .closePort
          (.done false none (.closed s.ports.channels[c].state s.ports.channels[c].queue.length))))
    ∧ (Passes s .forceClose .maintenance →
      exec (.forceClose .maintenance (c.val + 2)) s = .next
        ((s.modifyChannel c (fun p => { p with state := .closed, queue := [] })).reply .maintenance .forceClose
          (.done false none (.closed s.ports.channels[c].state s.ports.channels[c].queue.length)))
      ∧ (∀ n : Nat, (n = 0 ∨ 5 < n) →
        exec (.forceClose .maintenance n) s = .next (s.confirm .maintenance ⟨68, .refused .range⟩)))

/-- CLOSE on the link port, and FORCE CLOSE of port 1, make the site an island: neighbours DOWN, every ASKED transaction ended by failure
with the refusal cooldown and the others unchanged, the class queues empty, the link queue, the owed REFRESH and the owed LEAVEs gone, the
pending claims kept, LINK_CLOSED raised with the kind that closed it. The table's lists, a sweep that is not at its end, the channel ports
with their chatter counts and the configuration stay. An entry made during the transaction takes no cooldown (log entries 24 and 27). -/
def Obligations.CloseLinkPortMakesIsland : Prop :=
  ∀ (s : State) (c : Instr) (p : Port) (k : Kind), SlotsExact s → ClassQueuesExact s → Passes s k p →
    (c = .closePort .link ∧ p = .link ∧ k = .closePort ∨ c = .forceClose .maintenance 1 ∧ p = .maintenance ∧ k = .forceClose) →
    ∃ t, exec c s = .next t ∧ t.ports.link.isOpen = false ∧ t.ports.link.queue = []
      ∧ t.ports.link.refreshOwed = false ∧ t.ports.link.attention = false
      ∧ (∀ j : Fin 12, t.neighbours[j] = s.neighbours[j].map (fun n => { n with link := .down }))
      ∧ (∀ j : Fin 8, s.phase? j = some .asked → t.handover.slots[j] = ⟨s.handover.slots[j].generation, none⟩)
      ∧ (∀ j : Fin 8, s.phase? j ≠ some .asked → t.handover.slots[j] = s.handover.slots[j])
      ∧ (∀ q : Fin 4, t.handover.queues[q] = [])
      ∧ (∀ (j : Fin 8) (x : Transaction) (r : Record), s.handover.slots[j].transaction = some x → x.phase = .asked →
          s.record? x.record = some r → t.record? x.record = some
            { r with
              state := .active
              slot := none
              neighbours := r.neighbours.map (fun e => e.afterEnd x.target (some s.selected.refusalCooldown)) })
      ∧ (∀ (i : Index) (r : Record), s.record? i = some r → (∀ j : Fin 8, r.slot = some j → s.phase? j ≠ some .asked) →
          t.record? i = some { r with queued := false, target := none })
      ∧ (∀ j : Place, t.interest.places[j] = s.interest.places[j].map (fun e => { e with leaveOwed := false }))
      ∧ t.interest.owedLeaves = [] ∧ t.interest.leaving = s.interest.leaving ∧ t.claims = s.claims
      ∧ t.ports.maintenance.alarms = raiseIn .linkClosed k.code s.ports.maintenance.alarms
      ∧ t.outbound p = [⟨k.code, .done false none (.closed (s.portState .link) s.ports.link.queue.length)⟩]
      ∧ (∀ d : Fin 4, t.ports.channels[d].queue = s.ports.channels[d].queue ∧ t.ports.channels[d].state = s.ports.channels[d].state)
      ∧ (∀ q : Port, q ≠ p → t.outbound q = s.outbound q)
      ∧ (¬(s.sweep.inFlight = true ∧ s.sweep.unvisited = 0) →
          t.sweep = s.sweep ∧ ∀ d : Fin 4, t.ports.channels[d].chatter = s.ports.channels[d].chatter)
      ∧ (∀ i : Index, s.record? i = none → t.record? i = none)
      ∧ t.visitors.chains = s.visitors.chains ∧ t.visitors.age = s.visitors.age ∧ t.visitors.free = s.visitors.free ∧ ConfigKept s t

/-- UNMUTE opens a MUTED channel port with chatter count 0, sets the count of an OPEN one to 0 and leaves a CLOSED one as it is; it
touches nothing else. A number outside 1 to 4 is refused RANGE. -/
def Obligations.UnmuteActsByPortState : Prop :=
  ∀ s : State, Settled s → Passes s .unmute .maintenance →
    (∀ c : Fin 4, exec (.unmute .maintenance (c.val + 1)) s = .next
      ((s.modifyChannel c (fun p =>
        { p with
          state := if p.state = .muted then .opened else p.state
          chatter := if p.state = .closed then p.chatter else 0 })).reply .maintenance .unmute
        (.done false none (.unmuted s.ports.channels[c].state s.ports.channels[c].chatter))))
    ∧ (∀ n : Nat, (n = 0 ∨ 4 < n) → exec (.unmute .maintenance n) s = .next (s.confirm .maintenance ⟨67, .refused .range⟩))

/-- A confirmation clocked out leaves its port's outbound line, and nothing else changes. The bytes that carry a confirmation are its kind,
the length of what follows, the outcome, the marks, and the results as R189 to R191 lay them out: a refusal carries none, a STALE refusal
the stored sequence. The code of REGISTER's claim pending byte and the open codes of READ RECORD are the model's (log entries 25 and 20),
and the result bytes of a kind without a layout are a free value of at most 253 bytes (log entry 11). -/
def Obligations.ClockingOutFreesOutboundLine : Prop :=
  (∀ (p : Port) (s : State), Settled s → s.resetPinLow = false →
    exec (.confirmationClockedOut p) s = .next (s.setOutbound (s.outbound p).tail p)
    ∧ (s.setOutbound (s.outbound p).tail p).outbound p = (s.outbound p).tail
    ∧ (∀ q : Port, q ≠ p → (s.setOutbound (s.outbound p).tail p).outbound q = s.outbound q))
  ∧ (∀ n : Nat, byte1 n = [BitVec.ofNat 8 n] ∧ byte2 n = byte1 (n / 256) ++ byte1 n
    ∧ byte3 n = byte1 (n / 65536) ++ byte1 (n / 256) ++ byte1 n)
  ∧ ConfirmationBytes ∧ NoticeBytes ∧ ResultBytes ∧ RecordBytes

/-! ## The interest map -/

/-- One increment and one decrement of a talkgroup: a held entry counts up and is JOINED, off the leaving order; an unheld talkgroup
takes the lowest empty place with count 1, else the place of the oldest LEAVING entry, which owes a LEAVE if announced, else it
cannot be mapped; a count above 1 goes down, and a count of 1 goes LEAVING with the leave hold. The increments and decrements of one
event are taken in list order; each talkgroup that cannot be mapped is left off the list and raises MAP_FULL once with the unit ID, which
joins the alarm of its key or the tail of the maintenance queue. -/
def Obligations.InterestCountsMembers : Prop :=
  (∀ (m : InterestMap) (tg hold : Nat),
    (∀ (k : Place) (e : MapEntry), m.places[k] = some e → e.talkgroup = tg → (∀ (j : Place) (d : MapEntry), j < k →
        m.places[j] = some d → d.talkgroup ≠ tg) →
      m.increment tg = some { m with
          places := m.places.set k (some { e with count := e.count + 1, phase := .joined })
          leaving := m.leaving.filter (fun j => j != k) }
      ∧ (2 ≤ e.count → m.decrement hold tg = { m with places := m.places.set k (some { e with count := e.count - 1 }) })
      ∧ (e.count = 1 → m.decrement hold tg = { m with
          places := m.places.set k (some { e with count := 0, phase := .leaving ⟨hold, 0⟩ })
          leaving := m.leaving ++ [k] }))
    ∧ ((∀ (j : Place) (d : MapEntry), m.places[j] = some d → d.talkgroup ≠ tg) →
      m.decrement hold tg = m
      ∧ (∀ k : Place, m.places[k] = none → (∀ j : Place, j < k → m.places[j] ≠ none) →
        m.increment tg = some { m with places := m.places.set k (some ⟨tg, 1, .joined, false, m.owedLeaves.contains tg⟩) })
      ∧ ((∀ j : Place, m.places[j] ≠ none) → m.leaving = [] → m.increment tg = none)
      ∧ (∀ (k : Place) (rest : List Place) (e : MapEntry), (∀ j : Place, m.places[j] ≠ none) → m.leaving = k :: rest →
        m.places[k] = some e →
        m.increment tg = some
          { places := m.places.set k (some ⟨tg, 1, .joined, false,
              (if e.announced then m.owedLeaves ++ [e.talkgroup] else m.owedLeaves).contains tg⟩)
            leaving := (k :: rest).filter (fun j => j != k)
            owedLeaves := if e.announced then m.owedLeaves ++ [e.talkgroup] else m.owedLeaves })))
  ∧ (∀ (s : State) (unit tg : Nat) (rest : List Nat),
    s.countTalkgroups unit [] = (s, [])
    ∧ (∀ m : InterestMap, s.interest.increment tg = some m → s.countTalkgroups unit (tg :: rest) =
        ((({ s with interest := m } : State).countTalkgroups unit rest).1,
          tg :: (({ s with interest := m } : State).countTalkgroups unit rest).2))
    ∧ (s.interest.increment tg = none → s.countTalkgroups unit (tg :: rest) =
        (s.modifyMaintenance (fun p => { p with alarms := raiseIn .mapFull unit p.alarms })).countTalkgroups unit rest)
    ∧ s.uncountTalkgroups [] = s
    ∧ s.uncountTalkgroups (tg :: rest) =
        ({ s with interest := s.interest.decrement s.selected.leaveHold tg } : State).uncountTalkgroups rest)
  ∧ (∀ (key : AlarmKey) (detail : Nat) (before after : List Alarm), (∀ a ∈ before, a.key ≠ key) →
    raiseIn key detail before = before ++ [⟨key, 1, detail⟩]
    ∧ ∀ a : Alarm, a.key = key →
      raiseIn key detail (before ++ a :: after) = before ++ ⟨key, min 255 (a.repeats + 1), detail⟩ :: after)

/-- The expiry of a leave timer, whatever count it still shows, empties its entry's place, takes it off the leaving order and owes a LEAVE
if the entry was announced; for a talkgroup that is JOINED or not in the map it changes nothing. The link flush time makes the oldest link
notice due, raises the line and changes nothing else. What an expiry command means when no such timer runs or steps are left, and the wait
that the flush time stores, are the model's choice (log entry 4). -/
def Obligations.LeaveAndFlushTimersExpire : Prop :=
  ∀ s : State, s.resetPinLow = false →
    (∀ (tg : Nat) (k : Place) (e : MapEntry), s.interest.places[k] = some e → e.talkgroup = tg →
      (∀ (j : Place) (d : MapEntry), s.interest.places[j] = some d → d.talkgroup = tg → j = k) →
      (∀ x : Timer, e.phase = .leaving x → ∃ t, exec (.leaveTimerExpiry tg) s = .next t
        ∧ UpToGrants { s with interest :=
            { places := s.interest.places.set k none
              leaving := s.interest.leaving.filter (fun j => j != k)
              owedLeaves := if e.announced then s.interest.owedLeaves ++ [tg] else s.interest.owedLeaves } } t)
      ∧ (e.phase = .joined → Settled s → exec (.leaveTimerExpiry tg) s = .next s))
    ∧ (∀ tg : Nat, (∀ (j : Place) (d : MapEntry), s.interest.places[j] = some d → d.talkgroup ≠ tg) → Settled s →
      exec (.leaveTimerExpiry tg) s = .next s)
    ∧ (Settled s → ∃ t, exec .linkFlushTimeout s = .next t
      ∧ (s.ports.link.queue = [] → t = s)
      ∧ (∀ (q : QueuedNotice) (rest : List QueuedNotice), s.ports.link.queue = q :: rest →
        t = s.modifyLink (fun p =>
          { p with queue := ⟨q.notice, max q.waited s.selected.flushTime⟩ :: rest, attention := true })))

/-! ## Registration, calls and claims -/

/-- Release takes a record out of everything that names it: its class queue, the pending-claims list, its transaction, the member
counts when it was ACTIVE or TRANSIT, the unvisited count, its chain and the age list; it is FREE at the tail of the free list. -/
def Obligations.ReleaseTakesRecordOutOfEveryList : Prop :=
  ∀ (s : State) (i : Index) (r : Record), s.record? i = some r →
    s.release i = { s with
      visitors := { s.visitors with
        records := s.visitors.records.set i none
        chains := s.visitors.chains.set (bucketOf r.unit) (s.visitors.chains[bucketOf r.unit].filter (fun j => j != i))
        age := s.visitors.age.filter (fun j => j != i)
        free := s.visitors.free ++ [i] }
      claims := s.claims.filter (fun e => e.index != i)
      handover :=
        { queues := s.handover.queues.map (fun q => q.filter (fun j => j != i))
          slots := match r.slot with
            | none => s.handover.slots
            | some k => s.handover.slots.set k ⟨s.handover.slots[k].generation, none⟩ }
      interest :=
        if r.state = .active ∨ r.state = .transit then
          r.talkgroups.foldl (fun m tg => m.decrement s.selected.leaveHold tg) s.interest
        else s.interest
      sweep := { s.sweep with unvisited := if r.stamp = s.sweep.parity then s.sweep.unvisited else s.sweep.unvisited - 1 } }

/-- REGISTER of a radio that no record holds takes the head of the free list when the list is open to the class, and fills the record:
ACTIVE content from the request, the sample taken whole, eight heard entries, the current parity as stamp; its talkgroups are counted and
a CLAIM is owed. The requested list is the first four IDs without 0, 65,535 and each later repeat, in their order, and ADJUSTED is set
when it is not the list carried (or a clamp was made). The confirmation reports claim pending as it stands after the grants of the step
(the model's choice, log entry 12). -/
def Obligations.RegisterNewFillsRecord : Prop :=
  (∀ (c : Fin 4) (f : RegisterFields) (cls : RadioClass) (i : Index) (rest : List Index) (s : State),
    Passes s .register (.channel c) → f.talkgroups.length ≤ 15 → NamesRadio f.unit → f.seq ≤ 15 →
    RadioClass.ofCode f.cls = some cls → s.find f.unit = none → s.visitors.free = i :: rest →
    (cls = .command ∨ cls = .air ∨ s.visitors.reserve < s.visitors.free.length) → TableSound s.visitors → ClaimsExact s →
    ∃ t q, exec (.register (.channel c) f) s = .next t ∧ t.record? i = some q
      ∧ UpToGrants
        (({ ((s.chattered c).countTalkgroups f.unit (requestedList f.talkgroups)).1 with
            visitors := ({ s.visitors with free := rest } : VisitorTable).occupy i
              { unit := f.unit, state := .active, cls := cls, seq := f.seq, serving := some c
                talkgroups := ((s.chattered c).countTalkgroups f.unit (requestedList f.talkgroups)).2
                home := some (16 * (s.scored f.attenuation f.grade).sample), neighbours := [], heard := true
                history := Vector.replicate 8 true, inCall := false, queued := false, target := none, slot := none
                claimPending := true, stateAge := 0, origin := none, stamp := s.sweep.parity }
            claims := s.claims ++ [⟨i, f.fresh⟩] } : State).confirm (.channel c)
          ⟨16, .done ((s.scored f.attenuation f.grade).adjusted || listReduced f.talkgroups) (some .applied)
            (.registered
              { registration := .new, index := i, seq := f.seq, grant := q.talkgroups, claimPending := q.claimPending
                sample := (s.scored f.attenuation f.grade).sample, weight := 16
                home := 16 * (s.scored f.attenuation f.grade).sample, cancel := none })⟩) t)
  ∧ (∀ ids : List Nat,
    requestedList ids = (List.range 4).filterMap (fun k =>
      ids[k]?.bind (fun tg => if 1 ≤ tg ∧ tg ≤ 65534 ∧ tg ∉ ids.take k then some tg else none))
    ∧ (listReduced ids = true ↔ requestedList ids ≠ ids))

/-- A REGISTER that the free list cannot serve evicts the LOST record nearest the head of the age list: that record leaves everything that
names it, and its index is filled as a new record's, ACTIVE, with its talkgroups counted and a CLAIM owed, and reported NEW (claim pending
as it stands after the grants of the step, log entry 12). With no record LOST it is refused FULL, TABLE_FULL is raised with the unit ID,
and nothing else changes. A REGISTER of an ACTIVE or TRANSIT record whose sequence is neither equal nor newer is refused STALE with the
stored sequence. The requested list is that of R47, which RegisterNewFillsRecord gives. -/
def Obligations.RegisterWithoutRoomEvictsOrIsRefused : Prop :=
  ∀ (c : Fin 4) (f : RegisterFields) (cls : RadioClass) (s : State),
    Passes s .register (.channel c) → f.talkgroups.length ≤ 15 → NamesRadio f.unit → f.seq ≤ 15 →
    RadioClass.ofCode f.cls = some cls →
    (s.find f.unit = none →
      (if cls = .command ∨ cls = .air then s.visitors.free = [] else s.visitors.free.length ≤ s.visitors.reserve) →
      (∀ (before after : List Index) (i : Index) (r : Record), s.visitors.age = before ++ i :: after → s.record? i = some r →
        r.state = .lost → TableSound s.visitors →
        (∀ j ∈ before, ∀ x : Record, s.record? j = some x → x.state ≠ .lost) →
        ∃ t q, exec (.register (.channel c) f) s = .next t ∧ t.record? i = some q ∧ q.unit = f.unit ∧ q.cls = cls ∧ q.seq = f.seq
          ∧ q.serving = some c ∧ q.home = some (16 * (s.scored f.attenuation f.grade).sample) ∧ q.neighbours = []
          ∧ q.inCall = false ∧ q.stateAge = 0 ∧ q.stamp = s.sweep.parity ∧ t.visitors.free = s.visitors.free
          ∧ t.visitors.age = before ++ after ++ [i]
          ∧ (∀ (j : Index) (x : Record), j ≠ i → s.record? j = some x → ∃ y, t.record? j = some y ∧ x.keptBy y)
          ∧ t.neighbours = s.neighbours ∧ ConfigKept s t
          ∧ UpToGrants
            (({ (((s.chattered c).release i).countTalkgroups f.unit (requestedList f.talkgroups)).1 with
                visitors := ({ ((s.chattered c).release i).visitors with free := s.visitors.free } : VisitorTable).occupy i
                  { unit := f.unit, state := .active, cls := cls, seq := f.seq, serving := some c
                    talkgroups := (((s.chattered c).release i).countTalkgroups f.unit (requestedList f.talkgroups)).2
                    home := some (16 * (s.scored f.attenuation f.grade).sample), neighbours := [], heard := true
                    history := Vector.replicate 8 true, inCall := false, queued := false, target := none, slot := none
                    claimPending := true, stateAge := 0, origin := none, stamp := s.sweep.parity }
                claims := s.claims.filter (fun e => e.index != i) ++ [⟨i, f.fresh⟩] } : State).confirm (.channel c)
              ⟨16, .done ((s.scored f.attenuation f.grade).adjusted || listReduced f.talkgroups) (some .applied)
                (.registered
                  { registration := .new, index := i, seq := f.seq, grant := q.talkgroups, claimPending := q.claimPending
                    sample := (s.scored f.attenuation f.grade).sample, weight := 16
                    home := 16 * (s.scored f.attenuation f.grade).sample, cancel := none })⟩) t)
      ∧ (Settled s → (∀ (i : Index) (r : Record), s.record? i = some r → r.state ≠ .lost) →
        exec (.register (.channel c) f) s =
          .next (((s.chattered c).raiseAlarm .tableFull f.unit).reply (.channel c) .register (.refused .full))))
    ∧ (∀ (i : Index) (r : Record), Settled s → s.find f.unit = some (i, r) → (r.state = .active ∨ r.state = .transit) →
      f.fresh = false → r.seq ≤ 15 → 8 ≤ (f.seq + 16 - r.seq) % 16 →
      exec (.register (.channel c) f) s = .next ((s.chattered c).reply (.channel c) .register (.stale r.seq)))

/-- Every other REGISTER of a radio that a record holds supersedes a TRANSIT record's transaction when its sequence is newer (slot freed,
CANCEL offered), counts the talkgroups that leave and join the list, and writes the record: ACTIVE unless it is refreshed in TRANSIT, with
serving port, class, home estimate, heard mark, list and place in the age list, and the sequence unless it is an equal one. A newer one,
or one for an EXPECTED record, owes a CLAIM; a queued record whose class changes moves to its new queue's tail; a refreshed HELD record
makes a MOVE attempt. The confirmation reports claim pending as it stands after the grants of the step (the model's choice, log entry 12).
The requested list is that of R47, which RegisterNewFillsRecord gives. -/
def Obligations.RegisterOfHeldRadioWritesRecord : Prop :=
  ∀ (c : Fin 4) (f : RegisterFields) (cls : RadioClass) (i : Index) (r v : Record) (s base e : State) (rel : Relation)
    (old requested : List Nat) (counted : State × List Nat) (claim : Bool) (home : Nat × Nat), SlotsExact s →
    Passes s .register (.channel c) → f.talkgroups.length ≤ 15 → NamesRadio f.unit → f.seq ≤ 15 →
    RadioClass.ofCode f.cls = some cls → s.find f.unit = some (i, r) → rel = relation r.seq f.seq f.fresh →
    (r.state = .expected ∨ r.state = .lost ∨ rel ≠ .notNewer) →
    requested = requestedList f.talkgroups → old = (if r.state = .active ∨ r.state = .transit then r.talkgroups else []) →
    home = (s.scored f.attenuation f.grade).into r.home → claim = decide (r.state = .expected ∨ rel = .newer) →
    base = (if r.state = .transit ∧ rel = .newer then (s.chattered c).superseded r else s.chattered c) →
    counted = (base.uncountTalkgroups (old.filter (fun tg => !requested.contains tg))).countTalkgroups f.unit
      (requested.filter (fun tg => !old.contains tg)) →
    v = { r with
        state := if r.state = .transit ∧ rel = .equal then .transit else .active
        slot := if r.state = .transit ∧ rel = .newer then none else r.slot
        neighbours := if r.state = .transit ∧ rel = .newer then r.neighbours.map (fun x => { x with better := 0, late := false })
          else r.neighbours
        serving := some c, cls := cls, heard := true, home := some home.1
        seq := if (r.state = .active ∨ r.state = .transit) ∧ rel = .equal then r.seq else f.seq
        history := if r.state = .lost then Vector.replicate 8 true else r.history
        origin := if r.state = .expected then none else r.origin
        talkgroups := requested.filter (fun tg => old.contains tg || counted.2.contains tg)
        claimPending := r.claimPending || claim } →
    e = { counted.1 with
        visitors := { base.visitors with
          records := base.visitors.records.set i (some v), age := s.visitors.age.filter (fun j => j != i) ++ [i] }
        claims := if claim = false then s.claims
          else if ∃ x ∈ s.claims, x.index = i then s.claims.map (fun x => if x.index = i then { x with fresh := x.fresh || f.fresh } else x)
          else s.claims ++ [⟨i, f.fresh⟩]
        handover := { base.handover with queues := Vector.ofFn (fun d : Fin 4 =>
          if r.queued = true ∧ r.cls ≠ cls then
            s.handover.queues[d].filter (fun j => j != i) ++ (if d = cls.index then [i] else [])
          else s.handover.queues[d]) } } →
    ∃ t q result, exec (.register (.channel c) f) s = .next t ∧ t.record? i = some q ∧ v.keptBy q
      ∧ result =
          { registration :=
              match r.state with
              | .expected => .arrived
              | .lost => .reactivated
              | .active => if rel = .equal then .refreshed else .renewed
              | .transit => if rel = .equal then .refreshed else .superseded
            index := i, seq := v.seq, grant := v.talkgroups, claimPending := q.claimPending
            sample := (s.scored f.attenuation f.grade).sample, weight := home.2, home := home.1
            cancel := if r.state = .transit ∧ rel = .newer then some s.fateOfOffer else none }
      ∧ ((∀ k : Fin 8, r.slot = some k → rel = .equal → s.phase? k ≠ some (.held .call) ∧ s.phase? k ≠ some (.held .room)) →
          UpToGrants (e.confirm (.channel c)
            ⟨16, .done ((s.scored f.attenuation f.grade).adjusted || listReduced f.talkgroups) (some .applied) (.registered result)⟩) t)
      ∧ (∀ (k : Fin 8) (x : Transaction), r.slot = some k → rel = .equal → s.handover.slots[k].transaction = some x →
          x.phase = .held .call ∨ x.phase = .held .room →
          UpToGrants ((e.attempted k x v c).confirm (.channel c)
            ⟨16, .done ((s.scored f.attenuation f.grade).adjusted || listReduced f.talkgroups) (some .applied) (.registered result)⟩) t)

/-- DEREGISTER releases the record it finds, in any state; for a TRANSIT record a CANCEL is offered first. -/
def Obligations.DeregisterReleasesRecord : Prop :=
  ∀ (c : Fin 4) (unit : Nat) (i : Index) (r : Record) (s : State),
    Passes s .deregister (.channel c) → NamesRadio unit → s.find unit = some (i, r) →
    (r.slot = none → ∃ t, exec (.deregister (.channel c) unit) s = .next t ∧ t.record? i = none
      ∧ UpToGrants ((s.release i).confirm (.channel c) ⟨17, .done false none (.deregistered r.state none)⟩) t)
    ∧ (∀ (k : Fin 8) (x : Transaction), r.slot = some k → s.handover.slots[k].transaction = some x → x.record = i →
      ∃ t, exec (.deregister (.channel c) unit) s = .next t ∧ t.record? i = none
        ∧ UpToGrants (((s.offered (.cancel r.unit s.protection.site x.target k s.handover.slots[k].generation)).release i).confirm
            (.channel c) ⟨17, .done false none (.deregistered r.state (some s.fateOfOffer))⟩) t)

/-- CALL START and CALL END set and clear in call and mark the radio heard. A CALL END also lets a transaction HELD for the call make its
MOVE attempt: on a port that takes it the MOVE is posted and the slot ORDERED, on a full one the slot is HELD for room, and on a CLOSED
one the transaction fails with a CANCEL. The confirmation of CALL START reports the state after the grants of the step (the model's
choice, log entry 12), and that of CALL END the fate of a CANCEL alone (log entry 17); an entry made during a transaction takes no
cooldown when it fails (log entries 24 and 27). -/
def Obligations.CallsMarkRecord : Prop :=
  ∀ (c : Fin 4) (unit : Nat) (i : Index) (r : Record) (s : State),
    NamesRadio unit → s.find unit = some (i, r) →
    (Passes s .callStart (.channel c) → ∃ t q, exec (.callStart (.channel c) unit) s = .next t ∧ t.record? i = some q
      ∧ q.inCall = true
      ∧ UpToGrants (((s.heardArrival c i r).modifyRecord i (fun x => { x with inCall := true })).confirm (.channel c)
          ⟨19, .done false none (.callStarted q.state)⟩) t)
    ∧ (Passes s .callEnd (.channel c) → (∀ k : Fin 8, r.slot = some k → s.phase? k ≠ some (.held .call)) →
      ∃ t q, exec (.callEnd (.channel c) unit) s = .next t ∧ t.record? i = some q ∧ q.inCall = false
      ∧ UpToGrants (((s.heardArrival c i r).modifyRecord i (fun x => { x with inCall := false })).confirm (.channel c)
          ⟨20, .done false none (.callEnded none)⟩) t)
    ∧ (Passes s .callEnd (.channel c) → ∀ (k : Fin 8) (x : Transaction) (d : Fin 4), r.slot = some k → r.state = .transit →
      s.handover.slots[k].transaction = some x → x.phase = .held .call → x.record = i → r.serving = some d →
      s.ports.channels[d].state ≠ .closed → s.ports.channels[d].queue.length < 32 →
      ∃ t, exec (.callEnd (.channel c) unit) s = .next t
        ∧ t.handover.slots[k] = ⟨s.handover.slots[k].generation, some { x with phase := .ordered, timer := ⟨x.claimTimeout, 0⟩ }⟩
        ∧ t.ports.channels[d].queue = s.ports.channels[d].queue ++ [.move r.unit x.target k s.handover.slots[k].generation]
        ∧ t.outbound (.channel c) = [⟨20, .done false none (.callEnded none)⟩])
    ∧ (Passes s .callEnd (.channel c) → ∀ (k : Fin 8) (x : Transaction) (d : Fin 4), r.slot = some k → r.state = .transit →
      s.handover.slots[k].transaction = some x → x.phase = .held .call → x.record = i → r.serving = some d →
      ∃ t, exec (.callEnd (.channel c) unit) s = .next t ∧ UpToGrants
        ((((s.heardArrival c i r).modifyRecord i (fun y => { y with inCall := false })).attempted k x
            { r with inCall := false } d).confirm (.channel c)
          ⟨20, .done false none (.callEnded (if s.ports.channels[d].state = .closed then some s.fateOfOffer else none))⟩) t)

/-- A CLAIM IN: for a radio that no record holds it does nothing. An EXPECTED or LOST record yields to any claim, an ACTIVE one to a
newer claim, a TRANSIT one to its target's claim or to a newer one: it is released. Any other record is kept, and a COUNTERCLAIM is
posted when the link queue has room, dropped otherwise. -/
def Obligations.ClaimInIsSettledByOneWinner : Prop :=
  ∀ (f : ClaimFields) (s : State), Passes s .claimIn .link → NamesRadio f.unit → s.NamesOtherSite f.site → f.seq ≤ 15 →
    (Settled s → s.find f.unit = none →
      exec (.claimIn .link f) s = .next (s.reply .link .claimIn (.done false (some .none) (.claimSettled none none none))))
    ∧ (∀ (i : Index) (r : Record), s.find f.unit = some (i, r) →
      (r.state = .expected ∨ r.state = .lost ∨ relation r.seq f.seq f.fresh = .newer
        ∨ (r.state = .transit ∧ ∃ (k : Fin 8) (x : Transaction), r.slot = some k ∧ s.handover.slots[k].transaction = some x
            ∧ x.target = f.site)) →
      ∃ t, exec (.claimIn .link f) s = .next t ∧ t.record? i = none
        ∧ UpToGrants ((s.release i).confirm .link
            ⟨32, .done false (some .yielded) (.claimSettled (some r.state) none none)⟩) t)
    ∧ (∀ (i : Index) (r : Record), Settled s → s.find f.unit = some (i, r) → relation r.seq f.seq f.fresh ≠ .newer →
      (r.state = .active ∨ (r.state = .transit ∧ ∃ (k : Fin 8) (x : Transaction), r.slot = some k
        ∧ s.handover.slots[k].transaction = some x ∧ x.target ≠ f.site)) →
      exec (.claimIn .link f) s = .next
        ((s.offered (.counterclaim r.unit s.protection.site r.seq f.site)).reply .link .claimIn
          (.done false (some .kept) (.claimSettled (some r.state) (some r.seq) (some s.fateOfOffer)))))

/-- The relation of a received sequence to a stored one is that of their difference modulo 16, and the fresh mark is newer than
any. -/
def Obligations.SequenceRelationIsModulo16 : Prop :=
  ∀ p q : Nat, p ≤ 15 → q ≤ 15 →
    relation p q true = .newer
    ∧ (((q : Int) - p) % 16 = 0 → relation p q false = .equal)
    ∧ (1 ≤ ((q : Int) - p) % 16 → ((q : Int) - p) % 16 ≤ 7 → relation p q false = .newer)
    ∧ (8 ≤ ((q : Int) - p) % 16 → relation p q false = .notNewer)

/-! ## Scoring -/

/-- The level index is (140 - a) / 2 rounded down, with the attenuation clamped to 20 to 140. The sample is the score at that index
less the penalty at the clamped grade, or 0 when that is negative; the weight is the smaller of the smoothing weight of the selected
profile and the cap. -/
def Obligations.SampleAndWeightOfMeasurement : Prop :=
  ∀ (s : State) (a g : Nat),
    (levelIndex a).val = (140 - max 20 (min 140 a)) / 2 ∧ (levelIndex a).val ≤ 60
    ∧ ((s.scored a g).sample : Int) =
      max 0 ((s.scoring.levels[levelIndex a].score : Int) - s.scoring.penalties[(Fin.ofNat 16 (min 15 g) : Fin 16)])
    ∧ (s.scored a g).weight = min s.selected.smoothing s.scoring.levels[levelIndex a].cap
    ∧ ((s.scored a g).adjusted = true ↔ (a < 20 ∨ 140 < a ∨ 15 < g))

/-- A present estimate moves toward 16 x by d w / 16 truncated toward zero; it stays between the two and within 0 to 4080, and weight
16 replaces it whole. -/
def Obligations.EstimateMovesByTruncatedStep : Prop :=
  ∀ e x w : Nat, e ≤ 4080 → x ≤ 255 → 1 ≤ w → w ≤ 16 →
    -4080 ≤ (16 * x : Int) - e ∧ (16 * x : Int) - e ≤ 4080
    ∧ ((smoothed e x w : Nat) : Int) = e + (((16 * x : Int) - e) * w).tdiv 16
    ∧ min e (16 * x) ≤ smoothed e x w ∧ smoothed e x w ≤ max e (16 * x) ∧ smoothed e x w ≤ 4080
    ∧ smoothed e x 16 = 16 * x

/-- An UPLINK sample is written into the home estimate of the record found, whole when the estimate is absent; the radio is heard,
and nothing else changes but what hearing a LOST radio brings back. -/
def Obligations.MeasureUplinkUpdatesHome : Prop :=
  ∀ (c : Fin 4) (f : MeasureFields) (i : Index) (r : Record) (s : State) (e w : Nat),
    Passes s .measure (.channel c) → NamesRadio f.unit → f.source = 0 → s.find f.unit = some (i, r) →
    (r.home = none → e = 16 * (s.scored f.attenuation f.grade).sample ∧ w = 16) →
    (∀ h : Nat, r.home = some h → e = smoothed h (s.scored f.attenuation f.grade).sample (s.scored f.attenuation f.grade).weight
      ∧ w = (s.scored f.attenuation f.grade).weight) →
    (∃ t, exec (.measure (.channel c) f) s = .next t
      ∧ UpToGrants (((s.heardArrival c i r).modifyRecord i (fun x => { x with home := some e })).confirm (.channel c)
          ⟨18, .done (s.scored f.attenuation f.grade).adjusted (some .applied)
            (.measured (s.scored f.attenuation f.grade).sample w (some .home) (some e) none)⟩) t)
    ∧ (Settled s → r.state ≠ .lost → exec (.measure (.channel c) f) s = .next
      (((s.heardArrival c i r).modifyRecord i (fun x => { x with home := some e })).reply (.channel c) .measure
        (.done (s.scored f.attenuation f.grade).adjusted (some .applied)
          (.measured (s.scored f.attenuation f.grade).sample w (some .home) (some e) none))))

/-- A DOWNLINK sample for a site of the neighbour table goes to the record's entry for it, or makes a new entry while fewer than 3 are
held, or replaces the weakest entry when it is stronger; a sample for this site or for a site outside the table, or one too weak to
displace, is DISCARDED. The radio is heard in every case. An entry made while the record has a transaction towards its site is marked late
(log entries 24 and 27). -/
def Obligations.MeasureDownlinkWritesEntry : Prop :=
  ∀ (c : Fin 4) (f : MeasureFields) (i : Index) (r : Record) (s : State) (x w : Nat) (late : Bool),
    Passes s .measure (.channel c) → NamesRadio f.unit → f.source = 1 → 1 ≤ f.site → f.site ≤ 1023 → s.find f.unit = some (i, r) →
    x = (s.scored f.attenuation f.grade).sample → w = (s.scored f.attenuation f.grade).weight →
    (late = true ↔ ∃ (k : Fin 8) (y : Transaction), r.slot = some k ∧ s.handover.slots[k].transaction = some y ∧ y.target = f.site) →
    ((f.site = s.protection.site ∨ ∀ (k : Fin 12) (n : Neighbour), s.neighbours[k] = some n → n.site ≠ f.site) →
      ∃ t, exec (.measure (.channel c) f) s = .next t ∧ UpToGrants ((s.heardArrival c i r).confirm (.channel c)
        ⟨18, .done (s.scored f.attenuation f.grade).adjusted (some .discarded) (.measured x w none none none)⟩) t)
    ∧ (∀ (k : Fin 12) (n : Neighbour), s.neighbours[k] = some n → n.site = f.site → f.site ≠ s.protection.site →
      (∀ e ∈ r.neighbours, e.site = f.site → (∀ d ∈ r.neighbours, d.site = f.site → d = e) →
        ∃ t, exec (.measure (.channel c) f) s = .next t ∧ UpToGrants
          (((s.heardArrival c i r).modifyRecord i (fun y => { y with neighbours := r.neighbours.map (fun d =>
              if d.site = f.site then { d with estimate := smoothed e.estimate x w, age := 0 } else d) })).confirm (.channel c)
            ⟨18, .done (s.scored f.attenuation f.grade).adjusted (some .applied)
              (.measured x w (some (.site f.site)) (some (smoothed e.estimate x w)) none)⟩) t)
      ∧ ((∀ e ∈ r.neighbours, e.site ≠ f.site) → r.neighbours.length < 3 →
        ∃ t, exec (.measure (.channel c) f) s = .next t ∧ UpToGrants
          (((s.heardArrival c i r).modifyRecord i (fun y => { y with
              neighbours := r.neighbours ++ [⟨f.site, 16 * x, 0, 0, 0, late⟩] })).confirm (.channel c)
            ⟨18, .done (s.scored f.attenuation f.grade).adjusted (some .applied)
              (.measured x 16 (some (.site f.site)) (some (16 * x)) none)⟩) t)
      ∧ (∀ d ∈ r.neighbours, (∀ e ∈ r.neighbours, e.site ≠ f.site) → 3 ≤ r.neighbours.length →
        (∀ e ∈ r.neighbours, d.estimate < e.estimate ∨ (d.estimate = e.estimate ∧ e.site ≤ d.site)) →
        (d.estimate < 16 * x → ∃ t, exec (.measure (.channel c) f) s = .next t ∧ UpToGrants
          (((s.heardArrival c i r).modifyRecord i (fun y => { y with neighbours := r.neighbours.map (fun e =>
              if e.site = d.site then ⟨f.site, 16 * x, 0, 0, 0, late⟩ else e) })).confirm (.channel c)
            ⟨18, .done (s.scored f.attenuation f.grade).adjusted (some .applied)
              (.measured x 16 (some (.site f.site)) (some (16 * x)) (some d.site))⟩) t)
        ∧ (16 * x ≤ d.estimate → ∃ t, exec (.measure (.channel c) f) s = .next t ∧ UpToGrants
          ((s.heardArrival c i r).confirm (.channel c)
            ⟨18, .done (s.scored f.attenuation f.grade).adjusted (some .discarded) (.measured x w none none none)⟩) t)))

/-- LOAD LEVEL TABLE and LOAD ERROR TABLE write their run of clamped entries and leave every other entry and everything else. -/
def Obligations.TableLoadsWriteTheirRun : Prop :=
  ∀ (start : Nat) (s : State), Settled s →
    (∀ entries : List (Nat × Nat), Passes s .loadLevelTable .maintenance → 1 ≤ entries.length → entries.length ≤ 8 →
      start + entries.length ≤ 61 →
      ∃ (levels : Vector LevelEntry 61) (adjusted : Bool), exec (.loadLevelTable .maintenance start entries) s = .next
          (({ s with scoring := { s.scoring with levels := levels } } : State).reply .maintenance .loadLevelTable
            (.done adjusted none (.levelsStored (entries.map (fun e => ⟨min 255 e.1, max 1 (min 16 e.2)⟩)))))
        ∧ (∀ i : Fin 61, levels[i] =
            match (if start ≤ i.val then entries[i.val - start]? else none) with
            | some e => ⟨min 255 e.1, max 1 (min 16 e.2)⟩
            | none => s.scoring.levels[i])
        ∧ (adjusted = true ↔ ∃ e ∈ entries, 255 < e.1 ∨ e.2 < 1 ∨ 16 < e.2))
    ∧ (∀ entries : List Nat, Passes s .loadErrorTable .maintenance → 1 ≤ entries.length → entries.length ≤ 8 →
      start + entries.length ≤ 16 →
      ∃ (penalties : Vector Nat 16) (adjusted : Bool), exec (.loadErrorTable .maintenance start entries) s = .next
          (({ s with scoring := { s.scoring with penalties := penalties } } : State).reply .maintenance .loadErrorTable
            (.done adjusted none (.penaltiesStored (entries.map (fun e => min 255 e)))))
        ∧ (∀ g : Fin 16, penalties[g] =
            match (if start ≤ g.val then entries[g.val - start]? else none) with
            | some e => min 255 e
            | none => s.scoring.penalties[g])
        ∧ (adjusted = true ↔ ∃ e ∈ entries, 255 < e))

/-! ## The sweep -/

/-- An expiry of the sweep timer reloads it from the selected profile. With a sweep in flight the sweep-due mark is set; with none a
sweep starts: parity flipped, every occupied record due, a fresh snapshot, chatter counts 0; over an empty table it ends at once. -/
def Obligations.SweepTimerExpiryStartsOrMarks : Prop :=
  ∀ s : State, Settled s → s.resetPinLow = false →
    (s.sweep.inFlight = true → exec .sweepTimerExpiry s = .next
      { s with sweep := { s.sweep with timer := ⟨s.selected.sweepPeriod, 0⟩, due := true } })
    ∧ (s.sweep.inFlight = false → exec .sweepTimerExpiry s = .next
      { s with
        sweep :=
          { timer := ⟨s.selected.sweepPeriod, 0⟩
            parity := match s.sweep.parity with
              | .even => .odd
              | .odd => .even
            inFlight := !s.visitors.age.isEmpty
            unvisited := s.visitors.age.length
            due := s.sweep.due
            snapshot := if s.visitors.age = [] then none else some
              ⟨s.selected.hysteresis, s.selected.dwell, s.selected.rescueFloor, s.selected.lossWindow, s.selected.lostHold,
                s.selected.arrivalTimeout, s.selected.estimateLife⟩ }
        ports := { s.ports with channels := s.ports.channels.map (fun p => { p with chatter := 0 }) } })

/-- A visit takes the unvisited record nearest the head of the age list: its stamp takes the parity, and the unvisited count falls by 1.
The visit of the last one ends the sweep, and starts the next at once when the sweep-due mark is set, with a fresh snapshot of the
selected profile; over an empty table that sweep ends in the same step. -/
def Obligations.VisitTakesNextUnvisitedRecord : Prop :=
  ∀ (s : State) (p : Snapshot) (before after : List Index) (i : Index) (r : Record),
    s.resetPinLow = false → s.sweep.inFlight = true → s.sweep.snapshot = some p →
    s.visitors.age = before ++ i :: after →
    (∀ j ∈ before, ∀ q : Record, s.record? j = some q → q.stamp = s.sweep.parity) →
    s.record? i = some r → r.stamp ≠ s.sweep.parity →
    ∃ t, exec .visit s = .next t ∧ (∀ q : Record, t.record? i = some q → q.stamp = s.sweep.parity)
      ∧ (2 ≤ s.sweep.unvisited → t.sweep = { s.sweep with unvisited := s.sweep.unvisited - 1 })
      ∧ (s.sweep.unvisited = 1 → s.sweep.due = false →
          t.sweep = { s.sweep with unvisited := 0, inFlight := false, snapshot := none })
      ∧ (s.sweep.unvisited = 1 → s.sweep.due = true → t.sweep.parity ≠ s.sweep.parity ∧ t.sweep.due = false
          ∧ t.sweep.unvisited = t.visitors.age.length ∧ t.sweep.inFlight = !t.visitors.age.isEmpty
          ∧ t.sweep.timer = s.sweep.timer
          ∧ t.sweep.snapshot = (if t.visitors.age = [] then none else some
              { hysteresis := s.selected.hysteresis, dwell := s.selected.dwell, rescueFloor := s.selected.rescueFloor
                lossWindow := s.selected.lossWindow, lostHold := s.selected.lostHold, arrivalTimeout := s.selected.arrivalTimeout
                estimateLife := s.selected.estimateLife })
          ∧ ∀ c : Fin 4, t.ports.channels[c].chatter = 0)
      ∧ ConfigKept s t

/-- A visit of a TRANSIT record shifts its history and ages its entries. A visit of an ACTIVE record that is not silent for the whole
loss window does the same, polls the radio when none of the newest L - 1 entries is heard and its port takes notices, and then, unless
it is in a call, decides on a handover. -/
def Obligations.VisitShiftsAgesAndPolls : Prop :=
  ∀ (s : State) (p : Snapshot) (i : Index) (r v : Record) (u : State),
    s.resetPinLow = false → s.sweep.inFlight = true → s.sweep.snapshot = some p → s.nextVisit? = some (i, r) →
    v = { r.visited s.sweep.parity with neighbours := (r.visited s.sweep.parity).entriesAged p.estimateLife } →
    u = { s.modifyRecord i (fun _ => v) with sweep := { s.sweep with unvisited := s.sweep.unvisited - 1 } } →
    (r.state = .transit → ∃ t, exec .visit s = .next t ∧ UpToGrants u t)
    ∧ (r.state = .active → (∃ h ∈ v.history.toList.take p.lossWindow, h = true) → ∀ c : Fin 4, r.serving = some c →
      ∃ t, exec .visit s = .next t ∧ UpToGrants
        (let w := if 2 ≤ p.lossWindow ∧ (∀ h ∈ v.history.toList.take (p.lossWindow - 1), h = false)
            ∧ s.ports.channels[c].state ≠ .closed ∧ s.ports.channels[c].queue.length < 32 then
          u.modifyChannel c (fun ch => { ch with queue := ch.queue ++ [.poll r.unit] }) else u
        if v.inCall then w else w.decideHandover p i v) t)

/-- A visit that finds an ACTIVE record unheard for the whole loss window takes it to LOST, out of its class queue and uncounted. A
visit releases a LOST record whose state age reaches the lost hold and an EXPECTED one whose state age reaches the arrival timeout,
and otherwise counts the state age. -/
def Obligations.VisitLosesOrReleasesRecord : Prop :=
  ∀ (s : State) (p : Snapshot) (i : Index) (r : Record),
    s.resetPinLow = false → s.sweep.inFlight = true → s.sweep.snapshot = some p → s.nextVisit? = some (i, r) →
    (r.state = .active → (∀ h ∈ (r.visited s.sweep.parity).history.toList.take p.lossWindow, h = false) →
      ∃ t, exec .visit s = .next t ∧ UpToGrants
        { s.modifyRecord i (fun _ => { r.visited s.sweep.parity with state := .lost, stateAge := 0, queued := false, target := none }) with
          handover := { s.handover with queues := s.handover.queues.map (fun q => q.filter (fun j => j != i)) }
          interest := r.talkgroups.foldl (fun m tg => m.decrement s.selected.leaveHold tg) s.interest
          sweep := { s.sweep with unvisited := s.sweep.unvisited - 1 } } t)
    ∧ (∀ (limit : Nat) (v : Record) (u : State),
      (r.state = .lost ∧ limit = p.lostHold
          ∧ v = { r.visited s.sweep.parity with stateAge := min 255 (r.stateAge + 1), inCall := r.inCall }
        ∨ r.state = .expected ∧ limit = p.arrivalTimeout
          ∧ v = { r with stateAge := min 255 (r.stateAge + 1), stamp := s.sweep.parity }) →
      u = { s.modifyRecord i (fun _ => v) with sweep := { s.sweep with unvisited := s.sweep.unvisited - 1 } } →
      ∃ t, exec .visit s = .next t
        ∧ (limit ≤ min 255 (r.stateAge + 1) → UpToGrants (u.release i) t)
        ∧ (min 255 (r.stateAge + 1) < limit → UpToGrants u t))

/-- The decision's winner is the best candidate that beats home: a candidate entry with E at least S + 16 m, no other candidate having
a greater E, nor an equal E and a lower site. -/
def Obligations.WinnerIsBestCandidateBeatingHome : Prop :=
  ∀ (s : State) (p : Snapshot) (r : Record) (site : Nat),
    (∀ e ∈ r.neighbours, ∀ e' ∈ r.neighbours, e.site = e'.site → e = e') →
    (s.winner p r = some site ↔ ∃ (e : NeighbourEntry) (n : Neighbour), e ∈ r.neighbours ∧ e.site = site ∧ s.neighbour? site = some n
      ∧ e.cooldown = 0 ∧ (n.link = .up ∨ (n.link = .fading ∧ p.rescueFloor ≠ 0 ∧ r.home.getD 0 < 16 * p.rescueFloor))
      ∧ ((r.home.getD 0 + 16 * p.hysteresis : Nat) : Int) ≤ max 0 (min 4080 ((e.estimate : Int) + 16 * n.bias))
      ∧ ∀ e' ∈ r.neighbours, ∀ n' : Neighbour, s.neighbour? e'.site = some n' → e'.cooldown = 0 →
          (n'.link = .up ∨ (n'.link = .fading ∧ p.rescueFloor ≠ 0 ∧ r.home.getD 0 < 16 * p.rescueFloor)) →
          max 0 (min 4080 ((e'.estimate : Int) + 16 * n'.bias)) < max 0 (min 4080 ((e.estimate : Int) + 16 * n.bias))
            ∨ (max 0 (min 4080 ((e'.estimate : Int) + 16 * n'.bias)) = max 0 (min 4080 ((e.estimate : Int) + 16 * n.bias))
                ∧ site ≤ e'.site))

/-- The decision sets the better counts, withdraws a queued record whose target is not the winner, and queues a record at the tail of
its class queue when the winner's count reaches the required dwell. -/
def Obligations.DecisionCountsWithdrawsAndQueues : Prop :=
  ∀ (s : State) (p : Snapshot) (i : Index) (r : Record), s.record? i = some r → ClassQueuesExact s → r.state = .active →
    ∃ q, (s.decideHandover p i r).record? i = some q
      ∧ q.neighbours = r.neighbours.map (fun e =>
          { e with better := if s.winner p r = some e.site then min 15 (e.better + 1) else 0 })
      ∧ q = { r with neighbours := q.neighbours, queued := q.queued, target := q.target }
      ∧ s.decideHandover p i r = { s with
          visitors := { s.visitors with records := s.visitors.records.set i (some q) }
          handover := { s.handover with queues := (s.decideHandover p i r).handover.queues } }
      ∧ (s.winner p r = none → q.queued = false ∧ q.target = none
          ∧ (∀ c : Fin 4, (s.decideHandover p i r).handover.queues[c] = s.handover.queues[c].filter (fun j => j != i)))
      ∧ (r.queued = true → r.target = s.winner p r → q.queued = true ∧ q.target = r.target
          ∧ (s.decideHandover p i r).handover = s.handover)
      ∧ (∀ site : Nat, s.winner p r = some site → (r.queued = false ∨ r.target ≠ some site) →
          ((∃ e ∈ r.neighbours, e.site = site ∧
              (if p.rescueFloor ≠ 0 ∧ r.home.getD 0 < 16 * p.rescueFloor then 1 else p.dwell) ≤ min 15 (e.better + 1)) →
            q.queued = true ∧ q.target = some site
              ∧ (∀ c : Fin 4, (s.decideHandover p i r).handover.queues[c] =
                  s.handover.queues[c].filter (fun j => j != i) ++ if c = r.cls.index then [i] else []))
          ∧ ((∀ e ∈ r.neighbours, e.site = site →
              min 15 (e.better + 1) < if p.rescueFloor ≠ 0 ∧ r.home.getD 0 < 16 * p.rescueFloor then 1 else p.dwell) →
            q.queued = false ∧ q.target = none
              ∧ (∀ c : Fin 4, (s.decideHandover p i r).handover.queues[c] = s.handover.queues[c].filter (fun j => j != i))))

/-! ## Handover -/

/-- A grant takes the lowest-numbered FREE slot and the head of the lowest-numbered class queue that is not empty: the generation
goes up by 1 modulo 16, the record becomes TRANSIT, the timers are loaded from the selected profile, and an ASK is posted. -/
def Obligations.GrantStartsTransaction : Prop :=
  ∀ (s : State) (k : Fin 8) (c : Fin 4) (i : Index) (queue : List Index) (r : Record) (target : Nat),
    s.ports.link.isOpen = true → s.ports.link.queue.length < 64 → s.ports.link.refreshOwed = false → s.claims = [] →
    s.interest.owedLeaves = [] → s.interest.nextJoin? = none →
    s.handover.slots[k].transaction = none → (∀ j : Fin 8, j < k → s.handover.slots[j].transaction ≠ none) →
    s.handover.queues[c] = i :: queue → (∀ d : Fin 4, d < c → s.handover.queues[d] = []) →
    s.record? i = some r → r.target = some target →
    s.grantPlace = some
      (({ s.modifyRecord i (fun x => { x with state := .transit, slot := some k, queued := false, target := none }) with
          handover :=
            { queues := s.handover.queues.map (fun q => q.filter (fun j => j != i))
              slots := s.handover.slots.set k ⟨(s.handover.slots[k].generation + 1) % 16, some
                { phase := .asked, record := i, target := target, timer := ⟨s.selected.answerTimeout, 0⟩
                  claimTimeout := s.selected.claimTimeout, orderHold := s.selected.orderHold }⟩ } } : State).modifyLink
        (fun p => { p with queue := p.queue ++ [⟨.ask r.unit s.protection.site target k
          ((s.handover.slots[k].generation + 1) % 16) r.cls r.seq r.talkgroups, 0⟩] }))

/-- A place of the link queue goes to the highest-ranked producer with an item owed: REFRESH, then CLAIM, LEAVE, JOIN and ASK. With no
room nothing is granted. A grant posts one notice, and the end of a step grants places one after another until none can be granted. -/
def Obligations.ArbiterServesHighestRank : Prop :=
  ∀ s : State,
    ((s.ports.link.isOpen = false ∨ 64 ≤ s.ports.link.queue.length) → s.grantPlace = none)
    ∧ (s.ports.link.isOpen = true → s.ports.link.queue.length < 64 →
      (s.ports.link.refreshOwed = true → s.grantPlace = some (s.modifyLink (fun p =>
        { p with refreshOwed := false, queue := p.queue ++ [⟨.refresh s.protection.site, 0⟩] })))
      ∧ (s.ports.link.refreshOwed = false →
        (∀ (e : PendingClaim) (rest : List PendingClaim) (r : Record), s.claims = e :: rest → s.record? e.index = some r →
          s.grantPlace = some (({ s.modifyRecord e.index (fun x => { x with claimPending := false }) with claims := rest } :
            State).modifyLink (fun p => { p with queue := p.queue ++ [⟨.claim r.unit s.protection.site r.seq e.fresh, 0⟩] })))
        ∧ (s.claims = [] →
          (∀ (tg : Nat) (rest : List Nat), s.interest.owedLeaves = tg :: rest →
            s.grantPlace = some (({ s with interest := { s.interest with
                owedLeaves := rest
                places := mapTable (Option.map (fun e => if e.talkgroup = tg then { e with leaveOwed := false } else e))
                  s.interest.places } } : State).modifyLink
              (fun p => { p with queue := p.queue ++ [⟨.leave tg s.protection.site, 0⟩] })))
          ∧ (s.interest.owedLeaves = [] → ∀ (k : Place) (e : MapEntry), s.interest.places[k] = some e → e.phase = .joined →
            e.announced = false → e.leaveOwed = false →
            (∀ (j : Place) (d : MapEntry), j < k → s.interest.places[j] = some d →
              d.phase ≠ .joined ∨ d.announced = true ∨ d.leaveOwed = true) →
            s.grantPlace = some (({ s with interest := { s.interest with
                places := s.interest.places.set k (some { e with announced := true }) } } : State).modifyLink
              (fun p => { p with queue := p.queue ++ [⟨.join e.talkgroup s.protection.site, 0⟩] }))))))
    ∧ (∀ t : State, s.grantPlace = some t → ∃ n : LinkNotice, t.ports.link.queue = s.ports.link.queue ++ [⟨n, 0⟩])
    ∧ (∃ t : State, GrantRun s t ∧ ∀ u : State, GrantRun s u → u = t)
    ∧ (∃ t : State, GrantRun s.checkSweep t ∧ s.settle = t.refreshLines)

/-- ANSWER REFUSE that belongs to an ASKED transaction ends it by failure with the refusal cooldown: the confirmation reports ENDED, and
no CANCEL is offered. An ANSWER that belongs to no transaction is refused UNKNOWN. An entry made during the transaction takes no cooldown
(log entries 24 and 27). -/
def Obligations.AnswerRefuseEndsTransaction : Prop :=
  ∀ (s : State) (f : AnswerFields) (k : Fin 8), Passes s .answer .link → f.slot = k.val → f.generation ≤ 15 →
    NamesRadio f.unit → 1 ≤ f.site → f.site ≤ 1023 → f.answer ≤ 1 →
    (∀ (x : Transaction) (r : Record), s.handover.slots[k].transaction = some x → s.handover.slots[k].generation = f.generation →
      x.phase = .asked → x.target = f.site → s.record? x.record = some r → r.unit = f.unit → f.answer = 1 →
      ∃ t, exec (.answer .link f) s = .next t
        ∧ UpToGrants ((s.failed k x (some s.selected.refusalCooldown)).confirm .link ⟨34, .done false none (.answered .ended)⟩) t)
    ∧ (Settled s →
      (s.handover.slots[k].generation ≠ f.generation ∨ s.phase? k ≠ some .asked
        ∨ (∃ x : Transaction, s.handover.slots[k].transaction = some x
          ∧ (x.target ≠ f.site ∨ ∀ r : Record, s.record? x.record = some r → r.unit ≠ f.unit))) →
      exec (.answer .link f) s = .next (s.confirm .link ⟨34, .refused .unknown⟩))

/-- ANSWER ACCEPT that belongs to an ASKED transaction makes a MOVE attempt: abandoned with a CANCEL on a CLOSED serving port, HELD for a
call or for room, otherwise the MOVE is posted and the slot is ORDERED. An entry made during the transaction takes no cooldown (log
entries 24 and 27). -/
def Obligations.AnswerAcceptMakesMoveAttempt : Prop :=
  ∀ (s : State) (f : AnswerFields) (k : Fin 8) (x : Transaction) (r : Record) (c : Fin 4),
    Passes s .answer .link → f.slot = k.val → f.generation ≤ 15 → NamesRadio f.unit → 1 ≤ f.site → f.site ≤ 1023 →
    s.handover.slots[k].transaction = some x → s.handover.slots[k].generation = f.generation → x.phase = .asked → x.target = f.site →
    s.record? x.record = some r → r.unit = f.unit → r.serving = some c → f.answer = 0 →
    ∃ t, exec (.answer .link f) s = .next t
      ∧ (s.ports.channels[c].state = .closed → UpToGrants
          (((s.offered (.cancel f.unit s.protection.site f.site k f.generation)).failed k x
            (some s.selected.refusalCooldown)).confirm .link ⟨34, .done false none (.answered (.abandoned s.fateOfOffer))⟩) t)
      ∧ (s.ports.channels[c].state ≠ .closed → r.inCall = true → UpToGrants
          ((s.withSlot k ⟨f.generation, some { x with phase := .held .call, timer := ⟨x.orderHold, 0⟩ }⟩).confirm .link
            ⟨34, .done false none (.answered (.held .call))⟩) t)
      ∧ (s.ports.channels[c].state ≠ .closed → r.inCall = false → 32 ≤ s.ports.channels[c].queue.length → UpToGrants
          ((s.withSlot k ⟨f.generation, some { x with phase := .held .room, timer := ⟨x.orderHold, 0⟩ }⟩).confirm .link
            ⟨34, .done false none (.answered (.held .room))⟩) t)
      ∧ (s.ports.channels[c].state ≠ .closed → r.inCall = false → s.ports.channels[c].queue.length < 32 → UpToGrants
          (((s.withSlot k ⟨f.generation, some { x with phase := .ordered, timer := ⟨x.claimTimeout, 0⟩ }⟩).modifyChannel c
            (fun p => { p with queue := p.queue ++ [.move f.unit f.site k f.generation] })).confirm .link
            ⟨34, .done false none (.answered .ordered)⟩) t)

/-- An answer, hold or claim timer that expires in its phase, whatever count it still shows, offers a CANCEL and ends the transaction by
failure with the refusal cooldown. In another phase, or in a FREE slot, it changes nothing (what an expiry command means when no such
timer runs, or has steps left, is the model's choice, log entry 4). An entry made during the transaction takes no cooldown (log entries 24
and 27). -/
def Obligations.TimerExpiryFailsTransaction : Prop :=
  ∀ (s : State) (k : Fin 8) (c : Instr) (phases : List Phase), s.resetPinLow = false →
    (c = .answerTimerExpiry k ∧ phases = [.asked] ∨ c = .holdTimerExpiry k ∧ phases = [.held .call, .held .room]
      ∨ c = .claimTimerExpiry k ∧ phases = [.ordered]) →
    (∀ (x : Transaction) (r : Record), s.handover.slots[k].transaction = some x → s.record? x.record = some r → x.phase ∈ phases →
      ∃ t, exec c s = .next t
        ∧ UpToGrants ((s.offered (.cancel r.unit s.protection.site x.target k s.handover.slots[k].generation)).failed k x
            (some s.selected.refusalCooldown)) t)
    ∧ (Settled s → (∀ x : Transaction, s.handover.slots[k].transaction = some x → x.phase ∉ phases) → exec c s = .next s)

/-- ASK IN: a new EXPECTED record from the free list, or in the place of the oldest LOST record when the list can give none; a renewed
EXPECTED record, a LOST record made EXPECTED, REFUSE PRESENT for an ACTIVE or TRANSIT record, or REFUSE FULL with TABLE_FULL raised; a
confirmation carries each answer. The requested list is that of R47, which RegisterNewFillsRecord gives. -/
def Obligations.AskInAnswersByRecordState : Prop :=
  ∀ (s : State) (f : AskFields) (cls : RadioClass),
    Passes s .askIn .link → f.talkgroups.length ≤ 15 → NamesRadio f.unit → s.NamesOtherSite f.origin → f.seq ≤ 15 →
    RadioClass.ofCode f.cls = some cls →
    (∀ (i : Index) (rest : List Index), s.find f.unit = none → s.visitors.free = i :: rest →
        (cls = .command ∨ cls = .air ∨ s.visitors.reserve < s.visitors.free.length) →
        ∃ t, exec (.askIn .link f) s = .next t ∧ UpToGrants
          (({ s with visitors := ({ s.visitors with free := rest } : VisitorTable).occupy i (
            { unit := f.unit, state := .expected, cls := cls, seq := f.seq, serving := none, talkgroups := requestedList f.talkgroups
              home := none, neighbours := [], heard := false, history := Vector.replicate 8 true, inCall := false, queued := false
              target := none, slot := none, claimPending := false, stateAge := 0, origin := some f.origin
              stamp := s.sweep.parity } : Record) } : State).confirm .link
            ⟨33, .done (listReduced f.talkgroups) none (.asked .accept (some i) none none)⟩) t)
    ∧ (∀ (before after : List Index) (i : Index) (r : Record), s.find f.unit = none →
        (if cls = .command ∨ cls = .air then s.visitors.free = [] else s.visitors.free.length ≤ s.visitors.reserve) →
        s.visitors.age = before ++ i :: after → s.record? i = some r → r.state = .lost →
        (∀ j ∈ before, ∀ x : Record, s.record? j = some x → x.state ≠ .lost) →
        ∃ t, exec (.askIn .link f) s = .next t ∧ UpToGrants
          (({ s.release i with visitors := ({ (s.release i).visitors with free := s.visitors.free } : VisitorTable).occupy i (
            { unit := f.unit, state := .expected, cls := cls, seq := f.seq, serving := none, talkgroups := requestedList f.talkgroups
              home := none, neighbours := [], heard := false, history := Vector.replicate 8 true, inCall := false, queued := false
              target := none, slot := none, claimPending := false, stateAge := 0, origin := some f.origin
              stamp := s.sweep.parity } : Record) } : State).confirm .link
            ⟨33, .done (listReduced f.talkgroups) none (.asked .accept (some i) none none)⟩) t)
    ∧ (Settled s → s.find f.unit = none →
        (if cls = .command ∨ cls = .air then s.visitors.free = [] else s.visitors.free.length ≤ s.visitors.reserve) →
        (∀ (i : Index) (r : Record), s.record? i = some r → r.state ≠ .lost) →
        exec (.askIn .link f) s = .next ((s.raiseAlarm .tableFull f.unit).reply .link .askIn
          (.done (listReduced f.talkgroups) none (.asked .refuseFull none none none))))
    ∧ (∀ (i : Index) (r : Record), s.find f.unit = some (i, r) → (r.state = .expected ∨ r.state = .lost) →
        ∃ t, exec (.askIn .link f) s = .next t ∧ UpToGrants
          ((if r.state = .lost then
              ({ s.modifyRecord i (fun x =>
                  { x with
                    state := .expected, cls := cls, seq := f.seq, serving := none, talkgroups := requestedList f.talkgroups
                    stateAge := 0, origin := some f.origin, claimPending := false }) with
                claims := s.claims.filter (fun e => e.index != i) } : State).toTail i
            else
              s.modifyRecord i (fun x =>
                { x with
                  state := .expected, cls := cls, seq := f.seq, serving := none, talkgroups := requestedList f.talkgroups
                  stateAge := 0, origin := some f.origin })).confirm .link
            ⟨33, .done (listReduced f.talkgroups) none (.asked .accept (some i) (some r.state) none)⟩) t)
    ∧ (∀ (i : Index) (r : Record), Settled s → s.find f.unit = some (i, r) → (r.state = .active ∨ r.state = .transit) →
        exec (.askIn .link f) s = .next (s.reply .link .askIn
          (.done (listReduced f.talkgroups) none (.asked .refusePresent none (some r.state) (some r.seq)))))

/-! ## Neighbours, profiles, protection -/

/-- LINK STATUS sets the link state of the slot that holds the site. A change to DOWN also ends every ASKED transaction to it by failure
with the refusal cooldown and no CANCEL, withdraws every record queued for it, the others keeping their order, raises NEIGHBOUR_DOWN and
touches nothing else; any other change does nothing more. A site in no slot is refused UNKNOWN. An entry made during the transaction takes
no cooldown (log entries 24 and 27). -/
def Obligations.LinkStatusSetsNeighbour : Prop :=
  ∀ (s : State) (site code : Nat) (l : LinkState), Passes s .linkStatus .link → s.NamesOtherSite site →
    LinkState.ofCode code = some l →
    (Settled s → s.neighbourSlot? site = none → exec (.linkStatus .link site code) s = .next (s.confirm .link ⟨35, .refused .unknown⟩))
    ∧ (∀ (k : Fin 12) (n : Neighbour), s.neighbourSlot? site = some k → s.neighbours[k] = some n →
      (Settled s → (l ≠ .down ∨ n.link = .down) → exec (.linkStatus .link site code) s = .next
        (({ s with neighbours := s.neighbours.set k (some { n with link := l }) } : State).reply .link .linkStatus
          (.done false none (.linkStatus k n.link none))))
      ∧ (l = .down → n.link ≠ .down → SlotsExact s → ClassQueuesExact s →
        ∃ t, exec (.linkStatus .link site code) s = .next t
          ∧ t.neighbours = s.neighbours.set k (some { n with link := .down })
          ∧ t.ports.maintenance.alarms = raiseIn .neighbourDown site s.ports.maintenance.alarms
          ∧ t.outbound .link = [⟨35, .done false none (.linkStatus k n.link (some
              ((List.finRange 8).countP (fun j => s.handover.slots[j].transaction.any (fun x => x.phase == .asked && x.target == site)),
                s.visitors.records.toList.countP (fun o => o.any (fun r => r.queued && r.target == some site)))))⟩]
          ∧ (∀ (j : Fin 8) (x : Transaction) (r : Record), s.handover.slots[j].transaction = some x → x.phase = .asked →
              x.target = site → s.record? x.record = some r → ∃ q, t.record? x.record = some q ∧ q.state = .active ∧ q.slot = none
                ∧ q.neighbours = r.neighbours.map (fun e => e.afterEnd site (some s.selected.refusalCooldown)))
          ∧ (∀ (j : Fin 8) (x : Transaction), s.handover.slots[j].transaction = some x → (x.phase ≠ .asked ∨ x.target ≠ site) →
              t.handover.slots[j] = s.handover.slots[j])
          ∧ (∀ (j : Fin 8) (x : Transaction), t.handover.slots[j].transaction = some x → x.phase = .asked → x.target ≠ site)
          ∧ (∀ (i : Index) (r : Record), t.record? i = some r → r.queued = true → r.target ≠ some site)
          ∧ (∃ u : State, UpToGrants u t ∧ u.neighbours = s.neighbours.set k (some { n with link := .down })
            ∧ SiteCleared s u site (fun l => l) (fun l => l.map (fun e => e.afterEnd site (some s.selected.refusalCooldown)))
            ∧ u.ports.maintenance = { s.ports.maintenance with alarms := raiseIn .neighbourDown site s.ports.maintenance.alarms }
            ∧ u.ports.link = { s.ports.link with outbound := t.outbound .link } ∧ u.ports.channels = s.ports.channels)
          ∧ t.visitors.age = s.visitors.age ∧ t.visitors.free = s.visitors.free ∧ ConfigKept s t))

/-- SET NEIGHBOUR writes its slot: emptied for site 0, a new site with link state DOWN, the same site with its bias replaced and its
link state kept. Naming the slot's own site, or an empty slot, does nothing else. A site that leaves takes with it every entry for it,
every record queued for it, the others keeping their order, and every ASKED transaction to it, whose record is ACTIVE with better counts 0
and no cooldown set; nothing else is touched. -/
def Obligations.SetNeighbourWritesSlot : Prop :=
  ∀ (s : State) (k : Fin 12) (site : Nat) (bias b : Int), Passes s .setNeighbour .maintenance →
    (site = 0 ∨ s.NamesOtherSite site ∧ ∀ (j : Fin 12) (m : Neighbour), s.neighbours[j] = some m → m.site = site → j = k) →
    b = max (-32) (min 31 bias) →
    (∀ stored : Option Neighbour, Settled s →
      (s.neighbours[k] = none ∧ stored = (if site = 0 then none else some ⟨site, b, .down⟩)
        ∨ ∃ n, s.neighbours[k] = some n ∧ n.site = site ∧ site ≠ 0 ∧ stored = some { n with bias := b }) →
      exec (.setNeighbour .maintenance k.val site bias) s = .next
        (({ s with neighbours := s.neighbours.set k stored } : State).reply .maintenance .setNeighbour
          (.done (site != 0 && b != bias) none (.neighbourStored stored (s.neighbours[k].map Neighbour.site) none))))
    ∧ (∀ n : Neighbour, s.neighbours[k] = some n → n.site ≠ site → SlotsExact s → ClassQueuesExact s →
      ∃ t a w e, exec (.setNeighbour .maintenance k.val site bias) s = .next t
        ∧ t.neighbours = s.neighbours.set k (if site = 0 then none else some ⟨site, b, .down⟩)
        ∧ t.outbound .maintenance = [⟨51, .done (site != 0 && b != bias) none
            (.neighbourStored (if site = 0 then none else some ⟨site, b, .down⟩) (some n.site) (some (a, w, e)))⟩]
        ∧ a = s.visitors.records.toList.countP (fun o => o.any (fun r => r.neighbours.any (fun x => x.site == n.site)))
        ∧ w = s.visitors.records.toList.countP (fun o => o.any (fun r => r.queued && r.target == some n.site))
        ∧ e = (List.finRange 8).countP (fun j => s.handover.slots[j].transaction.any (fun x => x.phase == .asked && x.target == n.site))
        ∧ (∀ (i : Index) (r : Record), s.record? i = some r → ∃ q, t.record? i = some q
            ∧ q.neighbours.map (fun x => { x with better := 0, late := false })
                = (r.neighbours.filter (fun x => x.site != n.site)).map (fun x => { x with better := 0, late := false })
            ∧ ((∀ j : Fin 8, r.slot = some j → s.phase? j ≠ some .asked) →
                q.neighbours = r.neighbours.filter (fun x => x.site != n.site))
            ∧ (q.queued = true → q.target ≠ some n.site))
        ∧ (∀ (j : Fin 8) (x : Transaction), s.handover.slots[j].transaction = some x → (x.phase ≠ .asked ∨ x.target ≠ n.site) →
            t.handover.slots[j] = s.handover.slots[j])
        ∧ (∀ (j : Fin 8) (x : Transaction), t.handover.slots[j].transaction = some x → x.phase = .asked → x.target ≠ n.site)
        ∧ (∃ u : State, UpToGrants u t ∧ u.neighbours = s.neighbours.set k (if site = 0 then none else some ⟨site, b, .down⟩)
          ∧ SiteCleared s u n.site (fun l => l.filter (fun x => x.site != n.site))
              (fun l => (l.filter (fun x => x.site != n.site)).map (fun x => { x with better := 0, late := false }))
          ∧ u.ports.maintenance = { s.ports.maintenance with outbound := t.outbound .maintenance }
          ∧ u.ports.link = s.ports.link ∧ u.ports.channels = s.ports.channels)
        ∧ t.visitors.age = s.visitors.age ∧ t.visitors.free = s.visitors.free ∧ ConfigKept s t)

/-- SET PROFILE FIELD writes the clamped value into one field of one profile. DECLARE INCIDENT sets the incident flag and selects
INCIDENT; STAND DOWN clears it and selects NORMAL. Nothing else changes but the attention lines. The selected profile is the one that the
selection names, and the codes 1 to 15 are the fifteen fields of R150 in its order. -/
def Obligations.ProfileRequestsWriteStore : Prop :=
  (∀ s : State, Settled s →
    (∀ (profile code value lo hi : Nat) (name : ProfileName), Passes s .setProfileField .maintenance →
      ProfileName.ofCode profile = some name → 1 ≤ code →
      [(2, 32), (1, 16), (0, 63), (1, 15), (0, 255), (1, 8), (1, 255), (1, 63), (1, 15), (1, 63), (2, 100), (5, 250), (5, 250),
        (1, 255), (1, 255)][code - 1]? = some (lo, hi) →
      ∃ store : ProfileStore, exec (.setProfileField .maintenance profile code value) s = .next
          (({ s with profiles := store } : State).reply .maintenance .setProfileField
            (.done (max lo (min hi value) != value) none (.profileField name code (max lo (min hi value))
              ((s.profiles.profile name).field code) (name == s.profiles.selection))))
        ∧ (store.profile name).field code = max lo (min hi value)
        ∧ (∀ d : Nat, d ≠ code → (store.profile name).field d = (s.profiles.profile name).field d)
        ∧ (∀ other : ProfileName, other ≠ name → store.profile other = s.profiles.profile other)
        ∧ store.selection = s.profiles.selection ∧ store.incident = s.profiles.incident)
    ∧ (Passes s .declareIncident .maintenance → exec (.declareIncident .maintenance) s = .next
        (({ s with profiles := { s.profiles with incident := true, selection := .incident } } : State).reply .maintenance
          .declareIncident (.done false none (.incidentBefore s.profiles.incident s.profiles.selection))))
    ∧ (Passes s .standDown .maintenance → exec (.standDown .maintenance) s = .next
        (({ s with profiles := { s.profiles with incident := false, selection := .normal } } : State).reply .maintenance
          .standDown (.done false none (.incidentBefore s.profiles.incident s.profiles.selection)))))
  ∧ (∀ s : State, s.selected = match s.profiles.selection with
      | .normal => s.profiles.normal
      | .incident => s.profiles.incidentProfile)
  ∧ (∀ store : ProfileStore, store.profile .normal = store.normal ∧ store.profile .incident = store.incidentProfile)
  ∧ (∀ (p : Profile) (v : Nat),
    (List.range 15).map (fun k => p.field (k + 1)) =
      [p.sweepPeriod, p.smoothing, p.hysteresis, p.dwell, p.rescueFloor, p.lossWindow, p.lostHold, p.arrivalTimeout, p.estimateLife,
        p.refusalCooldown, p.answerTimeout, p.claimTimeout, p.orderHold, p.leaveHold, p.flushTime]
    ∧ (List.range 15).map (fun k => p.setField v (k + 1)) =
      [{ p with sweepPeriod := v }, { p with smoothing := v }, { p with hysteresis := v }, { p with dwell := v },
        { p with rescueFloor := v }, { p with lossWindow := v }, { p with lostHold := v }, { p with arrivalTimeout := v },
        { p with estimateLife := v }, { p with refusalCooldown := v }, { p with answerTimeout := v }, { p with claimTimeout := v },
        { p with orderHold := v }, { p with leaveHold := v }, { p with flushTime := v }])

/-- SET LIMITS writes each item it gives, clamped, and leaves an item marked unchanged. SET SITE writes the site number while no record
is occupied and is refused BUSY otherwise; a site out of range or in the neighbour table is refused RANGE. -/
def Obligations.LimitsAndSiteAreWritten : Prop :=
  ∀ s : State, Settled s →
    (∀ (f : LimitsFields) (reserve allowance : Nat) (threshold : Threshold), Passes s .setLimits .maintenance →
      (f.reserve ≠ none ∨ f.allowance ≠ none ∨ f.threshold ≠ none) →
      (f.reserve = none ∧ reserve = s.visitors.reserve ∨ ∃ v, f.reserve = some v ∧ reserve = min 128 v) →
      (f.allowance = none ∧ allowance = s.ports.allowance ∨ ∃ v, f.allowance = some v ∧ allowance = max 16 (min 1023 v)) →
      (f.threshold = none ∧ threshold = s.ports.threshold ∨ ∃ v, f.threshold = some v ∧ Threshold.ofCode v = some threshold) →
      ∃ adjusted : Bool, exec (.setLimits .maintenance f) s = .next
          (({ s with
              visitors := { s.visitors with reserve := reserve }
              ports := { s.ports with allowance := allowance, threshold := threshold } } : State).reply .maintenance .setLimits
            (.done adjusted none (.limits (s.visitors.reserve, reserve) (s.ports.allowance, allowance) (s.ports.threshold, threshold))))
        ∧ (adjusted = true ↔ (∃ v, f.reserve = some v ∧ reserve ≠ v) ∨ ∃ v, f.allowance = some v ∧ allowance ≠ v))
    ∧ (∀ site : Nat, Passes s .setSite .maintenance →
      ((site = 0 ∨ 1023 < site ∨ ∃ (k : Fin 12) (n : Neighbour), s.neighbours[k] = some n ∧ n.site = site) →
        exec (.setSite .maintenance site) s = .next (s.confirm .maintenance ⟨53, .refused .range⟩))
      ∧ (1 ≤ site → site ≤ 1023 → (∀ (k : Fin 12) (n : Neighbour), s.neighbours[k] = some n → n.site ≠ site) →
        (s.visitors.age = [] → exec (.setSite .maintenance site) s = .next
          (({ s with protection := { s.protection with site := site } } : State).reply .maintenance .setSite
            (.done false none (.site s.protection.site site))))
        ∧ (s.visitors.age ≠ [] → exec (.setSite .maintenance site) s = .next (s.confirm .maintenance ⟨53, .refused .busy⟩))))

/-- LOCK sets the own locks of the groups named and UNLOCK clears them, refused RANGE when no group is named; SET INCIDENT LOCKS
replaces the four marks. The confirmation carries the values before and after and the effective locks: a group is effectively locked by
its own lock, and by its mark while the incident flag is set. -/
def Obligations.LocksAreSetAndCleared : Prop :=
  ∀ (s : State) (b : Byte) (g lock unlock : LockGroups) (effective : LockGroups → LockGroups → LockGroups), Settled s →
    (∀ own marks : LockGroups, effective own marks =
      ⟨own.tables || (s.profiles.incident && marks.tables), own.profiles || (s.profiles.incident && marks.profiles),
        own.neighbours || (s.profiles.incident && marks.neighbours), own.limits || (s.profiles.incident && marks.limits)⟩) →
    g = ⟨b.getLsbD 0, b.getLsbD 1, b.getLsbD 2, b.getLsbD 3⟩ →
    lock = ⟨s.protection.own.tables || g.tables, s.protection.own.profiles || g.profiles,
      s.protection.own.neighbours || g.neighbours, s.protection.own.limits || g.limits⟩ →
    unlock = ⟨s.protection.own.tables && !g.tables, s.protection.own.profiles && !g.profiles,
      s.protection.own.neighbours && !g.neighbours, s.protection.own.limits && !g.limits⟩ →
    (g ≠ ⟨false, false, false, false⟩ →
      (Passes s .lock .maintenance → exec (.lock .maintenance b) s = .next
        (({ s with protection := { s.protection with own := lock } } : State).reply .maintenance .lock
          (.done false none (.locks s.protection.own lock (effective lock s.protection.marks)))))
      ∧ (Passes s .unlock .maintenance → exec (.unlock .maintenance b) s = .next
        (({ s with protection := { s.protection with own := unlock } } : State).reply .maintenance .unlock
          (.done false none (.locks s.protection.own unlock (effective unlock s.protection.marks))))))
    ∧ (g = ⟨false, false, false, false⟩ →
      (Passes s .lock .maintenance → exec (.lock .maintenance b) s = .next (s.confirm .maintenance ⟨54, .refused .range⟩))
      ∧ (Passes s .unlock .maintenance → exec (.unlock .maintenance b) s = .next (s.confirm .maintenance ⟨55, .refused .range⟩)))
    ∧ (Passes s .setIncidentLocks .maintenance → exec (.setIncidentLocks .maintenance b) s = .next
        (({ s with protection := { s.protection with marks := g } } : State).reply .maintenance .setIncidentLocks
          (.done false none (.marks s.protection.marks g (effective s.protection.own g)))))

/-- SITE RESET releases every record oldest first, empties the claims, the class queues, the map and the channel and link queues, ends
the sweep and every transaction, and posts a REFRESH when the link port is OPEN; configuration, port states, chatter counts, link
states and the maintenance queue stay. -/
def Obligations.SiteResetReleasesEverything : Prop :=
  ∀ (s : State) (force : Bool), Passes s .siteReset .maintenance → (s.profiles.incident = false ∨ force = true) →
    exec (.siteReset .maintenance force) s = .next
      (({ s with
          visitors :=
            { records := Vector.replicate 384 none, chains := Vector.replicate 127 [], age := []
              free := s.visitors.free ++ s.visitors.age, reserve := s.visitors.reserve }
          claims := []
          sweep := { s.sweep with inFlight := false, unvisited := 0, due := false, snapshot := none }
          handover := ⟨Vector.replicate 4 [], s.handover.slots.map (fun g => ⟨g.generation, none⟩)⟩
          interest := ⟨Vector.replicate 256 none, [], []⟩
          ports := { s.ports with
            link := { s.ports.link with
              queue := if s.ports.link.isOpen then [⟨.refresh s.protection.site, 0⟩] else []
              refreshOwed := false }
            channels := s.ports.channels.map (fun c => { c with queue := [] }) } } : State).reply .maintenance .siteReset
        (.done false none (.siteReset s.visitors.age.length
          (s.handover.slots.toList.countP (fun g => g.transaction.isSome))
          (s.interest.places.toList.countP Option.isSome) s.ports.link.queue.length
          (s.ports.channels.toList.map (fun c => c.queue.length))
          (if s.ports.link.isOpen then some .posted else none) (s.profiles.incident && force))))

/-- READ RECORD and SITE STATUS change nothing. READ RECORD answers with the record and, while it has a transaction, that transaction, its
remaining time being the steps that its timer has not counted down (log entry 5); SITE STATUS answers with every count, length, state and
setting of the blocks, the effective locks among them (own lock, or incident flag and mark), the counts of records summing to 384. -/
def Obligations.ReadsChangeNothing : Prop :=
  ∀ s : State, Settled s →
    (∀ (unit : Nat) (i : Index) (r : Record), Passes s .readRecord .maintenance → NamesRadio unit →
      s.find unit = some (i, r) → ∃ items, exec (.readRecord .maintenance unit) s = .next
          (s.confirm .maintenance ⟨80, .done false none (.record i r items)⟩)
        ∧ (r.slot = none → items = none)
        ∧ (∀ (k : Fin 8) (x : Transaction), r.slot = some k → s.handover.slots[k].transaction = some x →
            items = some { phase := x.phase, slot := k, generation := s.handover.slots[k].generation, target := x.target
                           remaining := x.timer.steps }))
    ∧ (Passes s .siteStatus .maintenance → ∃ a : StatusResult, exec (.siteStatus .maintenance) s = .next
          (s.confirm .maintenance ⟨81, .done false none (.status a)⟩)
        ∧ a.site = s.protection.site ∧ a.freeCount = s.visitors.records.toList.countP (fun o => o.isNone)
        ∧ a.activeCount = s.visitors.records.toList.countP (fun o => o.any (fun r => r.state == .active))
        ∧ a.transitCount = s.visitors.records.toList.countP (fun o => o.any (fun r => r.state == .transit))
        ∧ a.lostCount = s.visitors.records.toList.countP (fun o => o.any (fun r => r.state == .lost))
        ∧ a.expectedCount = s.visitors.records.toList.countP (fun o => o.any (fun r => r.state == .expected))
        ∧ a.freeCount + a.expectedCount + a.activeCount + a.transitCount + a.lostCount = 384
        ∧ a.slotsInUse = s.handover.slots.toList.countP (fun g => g.transaction.isSome)
        ∧ a.classQueues = [s.handover.queues[0].length, s.handover.queues[1].length, s.handover.queues[2].length,
            s.handover.queues[3].length]
        ∧ a.joined = s.interest.places.toList.countP (fun o => o.any (fun e => e.phase == .joined))
        ∧ a.leaving = s.interest.places.toList.countP (fun o => o.any (fun e => e.phase != .joined))
        ∧ a.owedLeaves = s.interest.owedLeaves.length
        ∧ a.pendingClaims = s.claims.length ∧ a.unvisited = s.sweep.unvisited ∧ a.parity = s.sweep.parity
        ∧ a.sweepInFlight = s.sweep.inFlight ∧ a.incident = s.profiles.incident ∧ a.selection = s.profiles.selection
        ∧ a.maintenanceState = .opened ∧ a.linkState = (if s.ports.link.isOpen = true then .opened else .closed)
        ∧ a.channelStates = [s.ports.channels[0].state, s.ports.channels[1].state, s.ports.channels[2].state, s.ports.channels[3].state]
        ∧ a.linkQueue = s.ports.link.queue.length ∧ a.maintenanceQueue = s.ports.maintenance.alarms.length
        ∧ a.channelQueues = [s.ports.channels[0].queue.length, s.ports.channels[1].queue.length, s.ports.channels[2].queue.length,
            s.ports.channels[3].queue.length]
        ∧ a.reserve = s.visitors.reserve ∧ a.allowance = s.ports.allowance ∧ a.threshold = s.ports.threshold
        ∧ a.ownLocks = s.protection.own ∧ a.marks = s.protection.marks ∧ a.effective =
          ⟨s.protection.own.tables || (s.profiles.incident && s.protection.marks.tables),
            s.protection.own.profiles || (s.profiles.incident && s.protection.marks.profiles),
            s.protection.own.neighbours || (s.profiles.incident && s.protection.marks.neighbours),
            s.protection.own.limits || (s.profiles.incident && s.protection.marks.limits)⟩)

/-! ## Invariants -/

/-- Every invariant holds in the state right after reset. -/
def Obligations.InvariantsHoldAtReset : Prop :=
  Settled State.reset ∧ EngineSound State.reset ∧ RangesSound State.reset

/-- Every step leaves the engine settled: no place of the link queue that could be granted, no finished sweep, every attention line as
its conditions have it (while the RESET pin is high). -/
def Obligations.StepKeepsSettled : Prop :=
  ∀ s t : State, (s.resetPinLow = false → Settled s) → step s = .next t → t.resetPinLow = false → Settled t

/-- Every step keeps the visitor table sound and the unvisited count exact. -/
def Obligations.StepKeepsTableAndSweep : Prop :=
  ∀ s t : State, TableSound s.visitors → SweepExact s → step s = .next t → TableSound t.visitors ∧ SweepExact t

/-- Every step keeps slots, class queues and pending claims in agreement with the records. -/
def Obligations.StepKeepsHandoverLists : Prop :=
  ∀ s t : State, TableSound s.visitors → SlotsExact s → ClassQueuesExact s → ClaimsExact s → step s = .next t →
    SlotsExact t ∧ ClassQueuesExact t ∧ ClaimsExact t

/-- Every step keeps queues within their places, and scores, estimates, profile fields, biases, sites, the records' numbers, limits, chatter
counts, generations and repeat counts within their ranges, and the neighbour entries of a record for distinct sites of the table. -/
def Obligations.StepKeepsRanges : Prop :=
  ∀ s t : State, RangesSound s → step s = .next t → RangesSound t

/-- Every step keeps the engine sound: besides the lists, the fields each record state has, the interest map's member counts, the
owed-leaves list with the marks of the map, and the island that a CLOSED link port is. -/
def Obligations.StepKeepsEngineSound : Prop :=
  ∀ s t : State, EngineSound s → step s = .next t → EngineSound t
end

