-- ==== Sys2Proof/Laws/State.lean ====
section
/-! SUPPORT. What each operation leaves alone, one lemma for each field of the state, so that no proof unfolds a record update. -/

namespace Sys2Proof.Machine

/-! ## Records -/

@[simp] theorem State.modifyRecord_pending (s : State) (i : Index) (f : Record → Record) : (s.modifyRecord i f).pending = s.pending := rfl
@[simp] theorem State.modifyRecord_resetPinLow (s : State) (i : Index) (f : Record → Record) : (s.modifyRecord i f).resetPinLow = s.resetPinLow := rfl
@[simp] theorem State.modifyRecord_scoring (s : State) (i : Index) (f : Record → Record) : (s.modifyRecord i f).scoring = s.scoring := rfl
@[simp] theorem State.modifyRecord_claims (s : State) (i : Index) (f : Record → Record) : (s.modifyRecord i f).claims = s.claims := rfl
@[simp] theorem State.modifyRecord_sweep (s : State) (i : Index) (f : Record → Record) : (s.modifyRecord i f).sweep = s.sweep := rfl
@[simp] theorem State.modifyRecord_handover (s : State) (i : Index) (f : Record → Record) : (s.modifyRecord i f).handover = s.handover := rfl
@[simp] theorem State.modifyRecord_interest (s : State) (i : Index) (f : Record → Record) : (s.modifyRecord i f).interest = s.interest := rfl
@[simp] theorem State.modifyRecord_neighbours (s : State) (i : Index) (f : Record → Record) : (s.modifyRecord i f).neighbours = s.neighbours := rfl
@[simp] theorem State.modifyRecord_profiles (s : State) (i : Index) (f : Record → Record) : (s.modifyRecord i f).profiles = s.profiles := rfl
@[simp] theorem State.modifyRecord_ports (s : State) (i : Index) (f : Record → Record) : (s.modifyRecord i f).ports = s.ports := rfl
@[simp] theorem State.modifyRecord_protection (s : State) (i : Index) (f : Record → Record) : (s.modifyRecord i f).protection = s.protection := rfl

@[simp] theorem State.mapRecords_pending (s : State) (f : Record → Record) : (s.mapRecords f).pending = s.pending := rfl
@[simp] theorem State.mapRecords_resetPinLow (s : State) (f : Record → Record) : (s.mapRecords f).resetPinLow = s.resetPinLow := rfl
@[simp] theorem State.mapRecords_scoring (s : State) (f : Record → Record) : (s.mapRecords f).scoring = s.scoring := rfl
@[simp] theorem State.mapRecords_claims (s : State) (f : Record → Record) : (s.mapRecords f).claims = s.claims := rfl
@[simp] theorem State.mapRecords_sweep (s : State) (f : Record → Record) : (s.mapRecords f).sweep = s.sweep := rfl
@[simp] theorem State.mapRecords_handover (s : State) (f : Record → Record) : (s.mapRecords f).handover = s.handover := rfl
@[simp] theorem State.mapRecords_interest (s : State) (f : Record → Record) : (s.mapRecords f).interest = s.interest := rfl
@[simp] theorem State.mapRecords_neighbours (s : State) (f : Record → Record) : (s.mapRecords f).neighbours = s.neighbours := rfl
@[simp] theorem State.mapRecords_profiles (s : State) (f : Record → Record) : (s.mapRecords f).profiles = s.profiles := rfl
@[simp] theorem State.mapRecords_ports (s : State) (f : Record → Record) : (s.mapRecords f).ports = s.ports := rfl
@[simp] theorem State.mapRecords_protection (s : State) (f : Record → Record) : (s.mapRecords f).protection = s.protection := rfl

@[simp] theorem State.toTail_pending (s : State) (i : Index) : (s.toTail i).pending = s.pending := rfl
@[simp] theorem State.toTail_resetPinLow (s : State) (i : Index) : (s.toTail i).resetPinLow = s.resetPinLow := rfl
@[simp] theorem State.toTail_scoring (s : State) (i : Index) : (s.toTail i).scoring = s.scoring := rfl
@[simp] theorem State.toTail_claims (s : State) (i : Index) : (s.toTail i).claims = s.claims := rfl
@[simp] theorem State.toTail_sweep (s : State) (i : Index) : (s.toTail i).sweep = s.sweep := rfl
@[simp] theorem State.toTail_handover (s : State) (i : Index) : (s.toTail i).handover = s.handover := rfl
@[simp] theorem State.toTail_interest (s : State) (i : Index) : (s.toTail i).interest = s.interest := rfl
@[simp] theorem State.toTail_neighbours (s : State) (i : Index) : (s.toTail i).neighbours = s.neighbours := rfl
@[simp] theorem State.toTail_profiles (s : State) (i : Index) : (s.toTail i).profiles = s.profiles := rfl
@[simp] theorem State.toTail_ports (s : State) (i : Index) : (s.toTail i).ports = s.ports := rfl
@[simp] theorem State.toTail_protection (s : State) (i : Index) : (s.toTail i).protection = s.protection := rfl

@[simp] theorem State.markHeard_pending (s : State) (i : Index) : (s.markHeard i).pending = s.pending := rfl
@[simp] theorem State.markHeard_resetPinLow (s : State) (i : Index) : (s.markHeard i).resetPinLow = s.resetPinLow := rfl
@[simp] theorem State.markHeard_scoring (s : State) (i : Index) : (s.markHeard i).scoring = s.scoring := rfl
@[simp] theorem State.markHeard_claims (s : State) (i : Index) : (s.markHeard i).claims = s.claims := rfl
@[simp] theorem State.markHeard_sweep (s : State) (i : Index) : (s.markHeard i).sweep = s.sweep := rfl
@[simp] theorem State.markHeard_handover (s : State) (i : Index) : (s.markHeard i).handover = s.handover := rfl
@[simp] theorem State.markHeard_interest (s : State) (i : Index) : (s.markHeard i).interest = s.interest := rfl
@[simp] theorem State.markHeard_neighbours (s : State) (i : Index) : (s.markHeard i).neighbours = s.neighbours := rfl
@[simp] theorem State.markHeard_profiles (s : State) (i : Index) : (s.markHeard i).profiles = s.profiles := rfl
@[simp] theorem State.markHeard_ports (s : State) (i : Index) : (s.markHeard i).ports = s.ports := rfl
@[simp] theorem State.markHeard_protection (s : State) (i : Index) : (s.markHeard i).protection = s.protection := rfl

/-! ## Ports -/

@[simp] theorem State.modifyChannel_pending (s : State) (c : Fin 4) (f : ChannelPort → ChannelPort) : (s.modifyChannel c f).pending = s.pending := rfl
@[simp] theorem State.modifyChannel_resetPinLow (s : State) (c : Fin 4) (f : ChannelPort → ChannelPort) : (s.modifyChannel c f).resetPinLow = s.resetPinLow := rfl
@[simp] theorem State.modifyChannel_visitors (s : State) (c : Fin 4) (f : ChannelPort → ChannelPort) : (s.modifyChannel c f).visitors = s.visitors := rfl
@[simp] theorem State.modifyChannel_scoring (s : State) (c : Fin 4) (f : ChannelPort → ChannelPort) : (s.modifyChannel c f).scoring = s.scoring := rfl
@[simp] theorem State.modifyChannel_claims (s : State) (c : Fin 4) (f : ChannelPort → ChannelPort) : (s.modifyChannel c f).claims = s.claims := rfl
@[simp] theorem State.modifyChannel_sweep (s : State) (c : Fin 4) (f : ChannelPort → ChannelPort) : (s.modifyChannel c f).sweep = s.sweep := rfl
@[simp] theorem State.modifyChannel_handover (s : State) (c : Fin 4) (f : ChannelPort → ChannelPort) : (s.modifyChannel c f).handover = s.handover := rfl
@[simp] theorem State.modifyChannel_interest (s : State) (c : Fin 4) (f : ChannelPort → ChannelPort) : (s.modifyChannel c f).interest = s.interest := rfl
@[simp] theorem State.modifyChannel_neighbours (s : State) (c : Fin 4) (f : ChannelPort → ChannelPort) : (s.modifyChannel c f).neighbours = s.neighbours := rfl
@[simp] theorem State.modifyChannel_profiles (s : State) (c : Fin 4) (f : ChannelPort → ChannelPort) : (s.modifyChannel c f).profiles = s.profiles := rfl
@[simp] theorem State.modifyChannel_protection (s : State) (c : Fin 4) (f : ChannelPort → ChannelPort) : (s.modifyChannel c f).protection = s.protection := rfl

@[simp] theorem State.modifyLink_pending (s : State) (f : LinkPort → LinkPort) : (s.modifyLink f).pending = s.pending := rfl
@[simp] theorem State.modifyLink_resetPinLow (s : State) (f : LinkPort → LinkPort) : (s.modifyLink f).resetPinLow = s.resetPinLow := rfl
@[simp] theorem State.modifyLink_visitors (s : State) (f : LinkPort → LinkPort) : (s.modifyLink f).visitors = s.visitors := rfl
@[simp] theorem State.modifyLink_scoring (s : State) (f : LinkPort → LinkPort) : (s.modifyLink f).scoring = s.scoring := rfl
@[simp] theorem State.modifyLink_claims (s : State) (f : LinkPort → LinkPort) : (s.modifyLink f).claims = s.claims := rfl
@[simp] theorem State.modifyLink_sweep (s : State) (f : LinkPort → LinkPort) : (s.modifyLink f).sweep = s.sweep := rfl
@[simp] theorem State.modifyLink_handover (s : State) (f : LinkPort → LinkPort) : (s.modifyLink f).handover = s.handover := rfl
@[simp] theorem State.modifyLink_interest (s : State) (f : LinkPort → LinkPort) : (s.modifyLink f).interest = s.interest := rfl
@[simp] theorem State.modifyLink_neighbours (s : State) (f : LinkPort → LinkPort) : (s.modifyLink f).neighbours = s.neighbours := rfl
@[simp] theorem State.modifyLink_profiles (s : State) (f : LinkPort → LinkPort) : (s.modifyLink f).profiles = s.profiles := rfl
@[simp] theorem State.modifyLink_protection (s : State) (f : LinkPort → LinkPort) : (s.modifyLink f).protection = s.protection := rfl

@[simp] theorem State.modifyMaintenance_pending (s : State) (f : MaintenancePort → MaintenancePort) : (s.modifyMaintenance f).pending = s.pending := rfl
@[simp] theorem State.modifyMaintenance_resetPinLow (s : State) (f : MaintenancePort → MaintenancePort) : (s.modifyMaintenance f).resetPinLow = s.resetPinLow := rfl
@[simp] theorem State.modifyMaintenance_visitors (s : State) (f : MaintenancePort → MaintenancePort) : (s.modifyMaintenance f).visitors = s.visitors := rfl
@[simp] theorem State.modifyMaintenance_scoring (s : State) (f : MaintenancePort → MaintenancePort) : (s.modifyMaintenance f).scoring = s.scoring := rfl
@[simp] theorem State.modifyMaintenance_claims (s : State) (f : MaintenancePort → MaintenancePort) : (s.modifyMaintenance f).claims = s.claims := rfl
@[simp] theorem State.modifyMaintenance_sweep (s : State) (f : MaintenancePort → MaintenancePort) : (s.modifyMaintenance f).sweep = s.sweep := rfl
@[simp] theorem State.modifyMaintenance_handover (s : State) (f : MaintenancePort → MaintenancePort) : (s.modifyMaintenance f).handover = s.handover := rfl
@[simp] theorem State.modifyMaintenance_interest (s : State) (f : MaintenancePort → MaintenancePort) : (s.modifyMaintenance f).interest = s.interest := rfl
@[simp] theorem State.modifyMaintenance_neighbours (s : State) (f : MaintenancePort → MaintenancePort) : (s.modifyMaintenance f).neighbours = s.neighbours := rfl
@[simp] theorem State.modifyMaintenance_profiles (s : State) (f : MaintenancePort → MaintenancePort) : (s.modifyMaintenance f).profiles = s.profiles := rfl
@[simp] theorem State.modifyMaintenance_protection (s : State) (f : MaintenancePort → MaintenancePort) : (s.modifyMaintenance f).protection = s.protection := rfl

@[simp] theorem State.setOutbound_pending (s : State) (l : List Confirmation) (p : Port) : (s.setOutbound l p).pending = s.pending := by cases p <;> rfl
@[simp] theorem State.setOutbound_resetPinLow (s : State) (l : List Confirmation) (p : Port) : (s.setOutbound l p).resetPinLow = s.resetPinLow := by cases p <;> rfl
@[simp] theorem State.setOutbound_visitors (s : State) (l : List Confirmation) (p : Port) : (s.setOutbound l p).visitors = s.visitors := by cases p <;> rfl
@[simp] theorem State.setOutbound_scoring (s : State) (l : List Confirmation) (p : Port) : (s.setOutbound l p).scoring = s.scoring := by cases p <;> rfl
@[simp] theorem State.setOutbound_claims (s : State) (l : List Confirmation) (p : Port) : (s.setOutbound l p).claims = s.claims := by cases p <;> rfl
@[simp] theorem State.setOutbound_sweep (s : State) (l : List Confirmation) (p : Port) : (s.setOutbound l p).sweep = s.sweep := by cases p <;> rfl
@[simp] theorem State.setOutbound_handover (s : State) (l : List Confirmation) (p : Port) : (s.setOutbound l p).handover = s.handover := by cases p <;> rfl
@[simp] theorem State.setOutbound_interest (s : State) (l : List Confirmation) (p : Port) : (s.setOutbound l p).interest = s.interest := by cases p <;> rfl
@[simp] theorem State.setOutbound_neighbours (s : State) (l : List Confirmation) (p : Port) : (s.setOutbound l p).neighbours = s.neighbours := by cases p <;> rfl
@[simp] theorem State.setOutbound_profiles (s : State) (l : List Confirmation) (p : Port) : (s.setOutbound l p).profiles = s.profiles := by cases p <;> rfl
@[simp] theorem State.setOutbound_protection (s : State) (l : List Confirmation) (p : Port) : (s.setOutbound l p).protection = s.protection := by cases p <;> rfl

@[simp] theorem State.confirm_pending (s : State) (p : Port) (c : Confirmation) : (s.confirm p c).pending = s.pending := by simp [State.confirm]
@[simp] theorem State.confirm_resetPinLow (s : State) (p : Port) (c : Confirmation) : (s.confirm p c).resetPinLow = s.resetPinLow := by simp [State.confirm]
@[simp] theorem State.confirm_visitors (s : State) (p : Port) (c : Confirmation) : (s.confirm p c).visitors = s.visitors := by simp [State.confirm]
@[simp] theorem State.confirm_scoring (s : State) (p : Port) (c : Confirmation) : (s.confirm p c).scoring = s.scoring := by simp [State.confirm]
@[simp] theorem State.confirm_claims (s : State) (p : Port) (c : Confirmation) : (s.confirm p c).claims = s.claims := by simp [State.confirm]
@[simp] theorem State.confirm_sweep (s : State) (p : Port) (c : Confirmation) : (s.confirm p c).sweep = s.sweep := by simp [State.confirm]
@[simp] theorem State.confirm_handover (s : State) (p : Port) (c : Confirmation) : (s.confirm p c).handover = s.handover := by simp [State.confirm]
@[simp] theorem State.confirm_interest (s : State) (p : Port) (c : Confirmation) : (s.confirm p c).interest = s.interest := by simp [State.confirm]
@[simp] theorem State.confirm_neighbours (s : State) (p : Port) (c : Confirmation) : (s.confirm p c).neighbours = s.neighbours := by simp [State.confirm]
@[simp] theorem State.confirm_profiles (s : State) (p : Port) (c : Confirmation) : (s.confirm p c).profiles = s.profiles := by simp [State.confirm]
@[simp] theorem State.confirm_protection (s : State) (p : Port) (c : Confirmation) : (s.confirm p c).protection = s.protection := by simp [State.confirm]

@[simp] theorem State.raiseAlarm_pending (s : State) (k : AlarmKey) (d : Nat) : (s.raiseAlarm k d).pending = s.pending := rfl
@[simp] theorem State.raiseAlarm_resetPinLow (s : State) (k : AlarmKey) (d : Nat) : (s.raiseAlarm k d).resetPinLow = s.resetPinLow := rfl
@[simp] theorem State.raiseAlarm_visitors (s : State) (k : AlarmKey) (d : Nat) : (s.raiseAlarm k d).visitors = s.visitors := rfl
@[simp] theorem State.raiseAlarm_scoring (s : State) (k : AlarmKey) (d : Nat) : (s.raiseAlarm k d).scoring = s.scoring := rfl
@[simp] theorem State.raiseAlarm_claims (s : State) (k : AlarmKey) (d : Nat) : (s.raiseAlarm k d).claims = s.claims := rfl
@[simp] theorem State.raiseAlarm_sweep (s : State) (k : AlarmKey) (d : Nat) : (s.raiseAlarm k d).sweep = s.sweep := rfl
@[simp] theorem State.raiseAlarm_handover (s : State) (k : AlarmKey) (d : Nat) : (s.raiseAlarm k d).handover = s.handover := rfl
@[simp] theorem State.raiseAlarm_interest (s : State) (k : AlarmKey) (d : Nat) : (s.raiseAlarm k d).interest = s.interest := rfl
@[simp] theorem State.raiseAlarm_neighbours (s : State) (k : AlarmKey) (d : Nat) : (s.raiseAlarm k d).neighbours = s.neighbours := rfl
@[simp] theorem State.raiseAlarm_profiles (s : State) (k : AlarmKey) (d : Nat) : (s.raiseAlarm k d).profiles = s.profiles := rfl
@[simp] theorem State.raiseAlarm_protection (s : State) (k : AlarmKey) (d : Nat) : (s.raiseAlarm k d).protection = s.protection := rfl

@[simp] theorem State.postLink_pending (s : State) (n : LinkNotice) : (s.postLink n).pending = s.pending := rfl
@[simp] theorem State.postLink_resetPinLow (s : State) (n : LinkNotice) : (s.postLink n).resetPinLow = s.resetPinLow := rfl
@[simp] theorem State.postLink_visitors (s : State) (n : LinkNotice) : (s.postLink n).visitors = s.visitors := rfl
@[simp] theorem State.postLink_scoring (s : State) (n : LinkNotice) : (s.postLink n).scoring = s.scoring := rfl
@[simp] theorem State.postLink_claims (s : State) (n : LinkNotice) : (s.postLink n).claims = s.claims := rfl
@[simp] theorem State.postLink_sweep (s : State) (n : LinkNotice) : (s.postLink n).sweep = s.sweep := rfl
@[simp] theorem State.postLink_handover (s : State) (n : LinkNotice) : (s.postLink n).handover = s.handover := rfl
@[simp] theorem State.postLink_interest (s : State) (n : LinkNotice) : (s.postLink n).interest = s.interest := rfl
@[simp] theorem State.postLink_neighbours (s : State) (n : LinkNotice) : (s.postLink n).neighbours = s.neighbours := rfl
@[simp] theorem State.postLink_profiles (s : State) (n : LinkNotice) : (s.postLink n).profiles = s.profiles := rfl
@[simp] theorem State.postLink_protection (s : State) (n : LinkNotice) : (s.postLink n).protection = s.protection := rfl

@[simp] theorem State.postChannel_pending (s : State) (c : Fin 4) (n : ChannelNotice) : (s.postChannel c n).pending = s.pending := rfl
@[simp] theorem State.postChannel_resetPinLow (s : State) (c : Fin 4) (n : ChannelNotice) : (s.postChannel c n).resetPinLow = s.resetPinLow := rfl
@[simp] theorem State.postChannel_visitors (s : State) (c : Fin 4) (n : ChannelNotice) : (s.postChannel c n).visitors = s.visitors := rfl
@[simp] theorem State.postChannel_scoring (s : State) (c : Fin 4) (n : ChannelNotice) : (s.postChannel c n).scoring = s.scoring := rfl
@[simp] theorem State.postChannel_claims (s : State) (c : Fin 4) (n : ChannelNotice) : (s.postChannel c n).claims = s.claims := rfl
@[simp] theorem State.postChannel_sweep (s : State) (c : Fin 4) (n : ChannelNotice) : (s.postChannel c n).sweep = s.sweep := rfl
@[simp] theorem State.postChannel_handover (s : State) (c : Fin 4) (n : ChannelNotice) : (s.postChannel c n).handover = s.handover := rfl
@[simp] theorem State.postChannel_interest (s : State) (c : Fin 4) (n : ChannelNotice) : (s.postChannel c n).interest = s.interest := rfl
@[simp] theorem State.postChannel_neighbours (s : State) (c : Fin 4) (n : ChannelNotice) : (s.postChannel c n).neighbours = s.neighbours := rfl
@[simp] theorem State.postChannel_profiles (s : State) (c : Fin 4) (n : ChannelNotice) : (s.postChannel c n).profiles = s.profiles := rfl
@[simp] theorem State.postChannel_protection (s : State) (c : Fin 4) (n : ChannelNotice) : (s.postChannel c n).protection = s.protection := rfl

/-! ## The parts of the port unit -/

@[simp] theorem State.modifyChannel_ports_maintenance (s : State) (c : Fin 4) (f : ChannelPort → ChannelPort) : (s.modifyChannel c f).ports.maintenance = s.ports.maintenance := rfl
@[simp] theorem State.modifyChannel_ports_link (s : State) (c : Fin 4) (f : ChannelPort → ChannelPort) : (s.modifyChannel c f).ports.link = s.ports.link := rfl
@[simp] theorem State.modifyChannel_ports_allowance (s : State) (c : Fin 4) (f : ChannelPort → ChannelPort) : (s.modifyChannel c f).ports.allowance = s.ports.allowance := rfl
@[simp] theorem State.modifyChannel_ports_threshold (s : State) (c : Fin 4) (f : ChannelPort → ChannelPort) : (s.modifyChannel c f).ports.threshold = s.ports.threshold := rfl

@[simp] theorem State.modifyLink_ports_maintenance (s : State) (f : LinkPort → LinkPort) : (s.modifyLink f).ports.maintenance = s.ports.maintenance := rfl
@[simp] theorem State.modifyLink_ports_channels (s : State) (f : LinkPort → LinkPort) : (s.modifyLink f).ports.channels = s.ports.channels := rfl
@[simp] theorem State.modifyLink_ports_allowance (s : State) (f : LinkPort → LinkPort) : (s.modifyLink f).ports.allowance = s.ports.allowance := rfl
@[simp] theorem State.modifyLink_ports_threshold (s : State) (f : LinkPort → LinkPort) : (s.modifyLink f).ports.threshold = s.ports.threshold := rfl

@[simp] theorem State.modifyMaintenance_ports_link (s : State) (f : MaintenancePort → MaintenancePort) : (s.modifyMaintenance f).ports.link = s.ports.link := rfl
@[simp] theorem State.modifyMaintenance_ports_channels (s : State) (f : MaintenancePort → MaintenancePort) : (s.modifyMaintenance f).ports.channels = s.ports.channels := rfl
@[simp] theorem State.modifyMaintenance_ports_allowance (s : State) (f : MaintenancePort → MaintenancePort) : (s.modifyMaintenance f).ports.allowance = s.ports.allowance := rfl
@[simp] theorem State.modifyMaintenance_ports_threshold (s : State) (f : MaintenancePort → MaintenancePort) : (s.modifyMaintenance f).ports.threshold = s.ports.threshold := rfl

@[simp] theorem State.raiseAlarm_ports_link (s : State) (k : AlarmKey) (d : Nat) : (s.raiseAlarm k d).ports.link = s.ports.link := rfl
@[simp] theorem State.raiseAlarm_ports_channels (s : State) (k : AlarmKey) (d : Nat) : (s.raiseAlarm k d).ports.channels = s.ports.channels := rfl
@[simp] theorem State.raiseAlarm_ports_allowance (s : State) (k : AlarmKey) (d : Nat) : (s.raiseAlarm k d).ports.allowance = s.ports.allowance := rfl
@[simp] theorem State.raiseAlarm_ports_threshold (s : State) (k : AlarmKey) (d : Nat) : (s.raiseAlarm k d).ports.threshold = s.ports.threshold := rfl

@[simp] theorem State.postLink_ports_maintenance (s : State) (n : LinkNotice) : (s.postLink n).ports.maintenance = s.ports.maintenance := rfl
@[simp] theorem State.postLink_ports_channels (s : State) (n : LinkNotice) : (s.postLink n).ports.channels = s.ports.channels := rfl
@[simp] theorem State.postLink_ports_allowance (s : State) (n : LinkNotice) : (s.postLink n).ports.allowance = s.ports.allowance := rfl
@[simp] theorem State.postLink_ports_threshold (s : State) (n : LinkNotice) : (s.postLink n).ports.threshold = s.ports.threshold := rfl

@[simp] theorem State.postChannel_ports_maintenance (s : State) (c : Fin 4) (n : ChannelNotice) : (s.postChannel c n).ports.maintenance = s.ports.maintenance := rfl
@[simp] theorem State.postChannel_ports_link (s : State) (c : Fin 4) (n : ChannelNotice) : (s.postChannel c n).ports.link = s.ports.link := rfl
@[simp] theorem State.postChannel_ports_allowance (s : State) (c : Fin 4) (n : ChannelNotice) : (s.postChannel c n).ports.allowance = s.ports.allowance := rfl
@[simp] theorem State.postChannel_ports_threshold (s : State) (c : Fin 4) (n : ChannelNotice) : (s.postChannel c n).ports.threshold = s.ports.threshold := rfl

/-! ## Queues and lists -/

@[simp] theorem State.withdraw_pending (s : State) (i : Index) : (s.withdraw i).pending = s.pending := rfl
@[simp] theorem State.withdraw_resetPinLow (s : State) (i : Index) : (s.withdraw i).resetPinLow = s.resetPinLow := rfl
@[simp] theorem State.withdraw_scoring (s : State) (i : Index) : (s.withdraw i).scoring = s.scoring := rfl
@[simp] theorem State.withdraw_claims (s : State) (i : Index) : (s.withdraw i).claims = s.claims := rfl
@[simp] theorem State.withdraw_sweep (s : State) (i : Index) : (s.withdraw i).sweep = s.sweep := rfl
@[simp] theorem State.withdraw_interest (s : State) (i : Index) : (s.withdraw i).interest = s.interest := rfl
@[simp] theorem State.withdraw_neighbours (s : State) (i : Index) : (s.withdraw i).neighbours = s.neighbours := rfl
@[simp] theorem State.withdraw_profiles (s : State) (i : Index) : (s.withdraw i).profiles = s.profiles := rfl
@[simp] theorem State.withdraw_ports (s : State) (i : Index) : (s.withdraw i).ports = s.ports := rfl
@[simp] theorem State.withdraw_protection (s : State) (i : Index) : (s.withdraw i).protection = s.protection := rfl

@[simp] theorem State.withdrawTargets_pending (s : State) (test : Nat → Bool) : (s.withdrawTargets test).pending = s.pending := rfl
@[simp] theorem State.withdrawTargets_resetPinLow (s : State) (test : Nat → Bool) : (s.withdrawTargets test).resetPinLow = s.resetPinLow := rfl
@[simp] theorem State.withdrawTargets_scoring (s : State) (test : Nat → Bool) : (s.withdrawTargets test).scoring = s.scoring := rfl
@[simp] theorem State.withdrawTargets_claims (s : State) (test : Nat → Bool) : (s.withdrawTargets test).claims = s.claims := rfl
@[simp] theorem State.withdrawTargets_sweep (s : State) (test : Nat → Bool) : (s.withdrawTargets test).sweep = s.sweep := rfl
@[simp] theorem State.withdrawTargets_interest (s : State) (test : Nat → Bool) : (s.withdrawTargets test).interest = s.interest := rfl
@[simp] theorem State.withdrawTargets_neighbours (s : State) (test : Nat → Bool) : (s.withdrawTargets test).neighbours = s.neighbours := rfl
@[simp] theorem State.withdrawTargets_profiles (s : State) (test : Nat → Bool) : (s.withdrawTargets test).profiles = s.profiles := rfl
@[simp] theorem State.withdrawTargets_ports (s : State) (test : Nat → Bool) : (s.withdrawTargets test).ports = s.ports := rfl
@[simp] theorem State.withdrawTargets_protection (s : State) (test : Nat → Bool) : (s.withdrawTargets test).protection = s.protection := rfl

@[simp] theorem State.oweClaim_pending (s : State) (i : Index) (fresh : Bool) : (s.oweClaim i fresh).pending = s.pending := by unfold State.oweClaim; simp only; split <;> rfl
@[simp] theorem State.oweClaim_resetPinLow (s : State) (i : Index) (fresh : Bool) : (s.oweClaim i fresh).resetPinLow = s.resetPinLow := by unfold State.oweClaim; simp only; split <;> rfl
@[simp] theorem State.oweClaim_scoring (s : State) (i : Index) (fresh : Bool) : (s.oweClaim i fresh).scoring = s.scoring := by unfold State.oweClaim; simp only; split <;> rfl
@[simp] theorem State.oweClaim_sweep (s : State) (i : Index) (fresh : Bool) : (s.oweClaim i fresh).sweep = s.sweep := by unfold State.oweClaim; simp only; split <;> rfl
@[simp] theorem State.oweClaim_handover (s : State) (i : Index) (fresh : Bool) : (s.oweClaim i fresh).handover = s.handover := by unfold State.oweClaim; simp only; split <;> rfl
@[simp] theorem State.oweClaim_interest (s : State) (i : Index) (fresh : Bool) : (s.oweClaim i fresh).interest = s.interest := by unfold State.oweClaim; simp only; split <;> rfl
@[simp] theorem State.oweClaim_neighbours (s : State) (i : Index) (fresh : Bool) : (s.oweClaim i fresh).neighbours = s.neighbours := by unfold State.oweClaim; simp only; split <;> rfl
@[simp] theorem State.oweClaim_profiles (s : State) (i : Index) (fresh : Bool) : (s.oweClaim i fresh).profiles = s.profiles := by unfold State.oweClaim; simp only; split <;> rfl
@[simp] theorem State.oweClaim_ports (s : State) (i : Index) (fresh : Bool) : (s.oweClaim i fresh).ports = s.ports := by unfold State.oweClaim; simp only; split <;> rfl
@[simp] theorem State.oweClaim_protection (s : State) (i : Index) (fresh : Bool) : (s.oweClaim i fresh).protection = s.protection := by unfold State.oweClaim; simp only; split <;> rfl

@[simp] theorem State.dropClaim_pending (s : State) (i : Index) : (s.dropClaim i).pending = s.pending := rfl
@[simp] theorem State.dropClaim_resetPinLow (s : State) (i : Index) : (s.dropClaim i).resetPinLow = s.resetPinLow := rfl
@[simp] theorem State.dropClaim_scoring (s : State) (i : Index) : (s.dropClaim i).scoring = s.scoring := rfl
@[simp] theorem State.dropClaim_sweep (s : State) (i : Index) : (s.dropClaim i).sweep = s.sweep := rfl
@[simp] theorem State.dropClaim_handover (s : State) (i : Index) : (s.dropClaim i).handover = s.handover := rfl
@[simp] theorem State.dropClaim_interest (s : State) (i : Index) : (s.dropClaim i).interest = s.interest := rfl
@[simp] theorem State.dropClaim_neighbours (s : State) (i : Index) : (s.dropClaim i).neighbours = s.neighbours := rfl
@[simp] theorem State.dropClaim_profiles (s : State) (i : Index) : (s.dropClaim i).profiles = s.profiles := rfl
@[simp] theorem State.dropClaim_ports (s : State) (i : Index) : (s.dropClaim i).ports = s.ports := rfl
@[simp] theorem State.dropClaim_protection (s : State) (i : Index) : (s.dropClaim i).protection = s.protection := rfl

/-! ## Interest and visitor table -/

@[simp] theorem State.uncountTalkgroups_pending (s : State) (l : List Nat) : (s.uncountTalkgroups l).pending = s.pending := rfl
@[simp] theorem State.uncountTalkgroups_resetPinLow (s : State) (l : List Nat) : (s.uncountTalkgroups l).resetPinLow = s.resetPinLow := rfl
@[simp] theorem State.uncountTalkgroups_visitors (s : State) (l : List Nat) : (s.uncountTalkgroups l).visitors = s.visitors := rfl
@[simp] theorem State.uncountTalkgroups_scoring (s : State) (l : List Nat) : (s.uncountTalkgroups l).scoring = s.scoring := rfl
@[simp] theorem State.uncountTalkgroups_claims (s : State) (l : List Nat) : (s.uncountTalkgroups l).claims = s.claims := rfl
@[simp] theorem State.uncountTalkgroups_sweep (s : State) (l : List Nat) : (s.uncountTalkgroups l).sweep = s.sweep := rfl
@[simp] theorem State.uncountTalkgroups_handover (s : State) (l : List Nat) : (s.uncountTalkgroups l).handover = s.handover := rfl
@[simp] theorem State.uncountTalkgroups_neighbours (s : State) (l : List Nat) : (s.uncountTalkgroups l).neighbours = s.neighbours := rfl
@[simp] theorem State.uncountTalkgroups_profiles (s : State) (l : List Nat) : (s.uncountTalkgroups l).profiles = s.profiles := rfl
@[simp] theorem State.uncountTalkgroups_ports (s : State) (l : List Nat) : (s.uncountTalkgroups l).ports = s.ports := rfl
@[simp] theorem State.uncountTalkgroups_protection (s : State) (l : List Nat) : (s.uncountTalkgroups l).protection = s.protection := rfl

@[simp] theorem State.endTransaction_pending (s : State) (r : Record) : (s.endTransaction r).pending = s.pending := by unfold State.endTransaction; split <;> rfl
@[simp] theorem State.endTransaction_resetPinLow (s : State) (r : Record) : (s.endTransaction r).resetPinLow = s.resetPinLow := by unfold State.endTransaction; split <;> rfl
@[simp] theorem State.endTransaction_visitors (s : State) (r : Record) : (s.endTransaction r).visitors = s.visitors := by unfold State.endTransaction; split <;> rfl
@[simp] theorem State.endTransaction_scoring (s : State) (r : Record) : (s.endTransaction r).scoring = s.scoring := by unfold State.endTransaction; split <;> rfl
@[simp] theorem State.endTransaction_claims (s : State) (r : Record) : (s.endTransaction r).claims = s.claims := by unfold State.endTransaction; split <;> rfl
@[simp] theorem State.endTransaction_sweep (s : State) (r : Record) : (s.endTransaction r).sweep = s.sweep := by unfold State.endTransaction; split <;> rfl
@[simp] theorem State.endTransaction_interest (s : State) (r : Record) : (s.endTransaction r).interest = s.interest := by unfold State.endTransaction; split <;> rfl
@[simp] theorem State.endTransaction_neighbours (s : State) (r : Record) : (s.endTransaction r).neighbours = s.neighbours := by unfold State.endTransaction; split <;> rfl
@[simp] theorem State.endTransaction_profiles (s : State) (r : Record) : (s.endTransaction r).profiles = s.profiles := by unfold State.endTransaction; split <;> rfl
@[simp] theorem State.endTransaction_ports (s : State) (r : Record) : (s.endTransaction r).ports = s.ports := by unfold State.endTransaction; split <;> rfl
@[simp] theorem State.endTransaction_protection (s : State) (r : Record) : (s.endTransaction r).protection = s.protection := by unfold State.endTransaction; split <;> rfl

@[simp] theorem State.detach_pending (s : State) (i : Index) : (s.detach i).pending = s.pending := by unfold State.detach; split <;> [rfl; (split <;> simp)]
@[simp] theorem State.detach_resetPinLow (s : State) (i : Index) : (s.detach i).resetPinLow = s.resetPinLow := by unfold State.detach; split <;> [rfl; (split <;> simp)]
@[simp] theorem State.detach_scoring (s : State) (i : Index) : (s.detach i).scoring = s.scoring := by unfold State.detach; split <;> [rfl; (split <;> simp)]
@[simp] theorem State.detach_neighbours (s : State) (i : Index) : (s.detach i).neighbours = s.neighbours := by unfold State.detach; split <;> [rfl; (split <;> simp)]
@[simp] theorem State.detach_profiles (s : State) (i : Index) : (s.detach i).profiles = s.profiles := by unfold State.detach; split <;> [rfl; (split <;> simp)]
@[simp] theorem State.detach_ports (s : State) (i : Index) : (s.detach i).ports = s.ports := by unfold State.detach; split <;> [rfl; (split <;> simp)]
@[simp] theorem State.detach_protection (s : State) (i : Index) : (s.detach i).protection = s.protection := by unfold State.detach; split <;> [rfl; (split <;> simp)]

@[simp] theorem State.release_pending (s : State) (i : Index) : (s.release i).pending = s.pending := by unfold State.release; split <;> simp
@[simp] theorem State.release_resetPinLow (s : State) (i : Index) : (s.release i).resetPinLow = s.resetPinLow := by unfold State.release; split <;> simp
@[simp] theorem State.release_scoring (s : State) (i : Index) : (s.release i).scoring = s.scoring := by unfold State.release; split <;> simp
@[simp] theorem State.release_neighbours (s : State) (i : Index) : (s.release i).neighbours = s.neighbours := by unfold State.release; split <;> simp
@[simp] theorem State.release_profiles (s : State) (i : Index) : (s.release i).profiles = s.profiles := by unfold State.release; split <;> simp
@[simp] theorem State.release_ports (s : State) (i : Index) : (s.release i).ports = s.ports := by unfold State.release; split <;> simp
@[simp] theorem State.release_protection (s : State) (i : Index) : (s.release i).protection = s.protection := by unfold State.release; split <;> simp

/-! ## Transactions -/

@[simp] theorem State.failTransaction_pending (s : State) (k : Fin 8) (b : Bool) : (s.failTransaction k b).pending = s.pending := by unfold State.failTransaction; split <;> rfl
@[simp] theorem State.failTransaction_resetPinLow (s : State) (k : Fin 8) (b : Bool) : (s.failTransaction k b).resetPinLow = s.resetPinLow := by unfold State.failTransaction; split <;> rfl
@[simp] theorem State.failTransaction_scoring (s : State) (k : Fin 8) (b : Bool) : (s.failTransaction k b).scoring = s.scoring := by unfold State.failTransaction; split <;> rfl
@[simp] theorem State.failTransaction_claims (s : State) (k : Fin 8) (b : Bool) : (s.failTransaction k b).claims = s.claims := by unfold State.failTransaction; split <;> rfl
@[simp] theorem State.failTransaction_sweep (s : State) (k : Fin 8) (b : Bool) : (s.failTransaction k b).sweep = s.sweep := by unfold State.failTransaction; split <;> rfl
@[simp] theorem State.failTransaction_interest (s : State) (k : Fin 8) (b : Bool) : (s.failTransaction k b).interest = s.interest := by unfold State.failTransaction; split <;> rfl
@[simp] theorem State.failTransaction_neighbours (s : State) (k : Fin 8) (b : Bool) : (s.failTransaction k b).neighbours = s.neighbours := by unfold State.failTransaction; split <;> rfl
@[simp] theorem State.failTransaction_profiles (s : State) (k : Fin 8) (b : Bool) : (s.failTransaction k b).profiles = s.profiles := by unfold State.failTransaction; split <;> rfl
@[simp] theorem State.failTransaction_ports (s : State) (k : Fin 8) (b : Bool) : (s.failTransaction k b).ports = s.ports := by unfold State.failTransaction; split <;> rfl
@[simp] theorem State.failTransaction_protection (s : State) (k : Fin 8) (b : Bool) : (s.failTransaction k b).protection = s.protection := by unfold State.failTransaction; split <;> rfl

@[simp] theorem State.hold_pending (s : State) (k : Fin 8) (t : Transaction) (r : HoldReason) : (s.hold k t r).pending = s.pending := rfl
@[simp] theorem State.hold_resetPinLow (s : State) (k : Fin 8) (t : Transaction) (r : HoldReason) : (s.hold k t r).resetPinLow = s.resetPinLow := rfl
@[simp] theorem State.hold_visitors (s : State) (k : Fin 8) (t : Transaction) (r : HoldReason) : (s.hold k t r).visitors = s.visitors := rfl
@[simp] theorem State.hold_scoring (s : State) (k : Fin 8) (t : Transaction) (r : HoldReason) : (s.hold k t r).scoring = s.scoring := rfl
@[simp] theorem State.hold_claims (s : State) (k : Fin 8) (t : Transaction) (r : HoldReason) : (s.hold k t r).claims = s.claims := rfl
@[simp] theorem State.hold_sweep (s : State) (k : Fin 8) (t : Transaction) (r : HoldReason) : (s.hold k t r).sweep = s.sweep := rfl
@[simp] theorem State.hold_interest (s : State) (k : Fin 8) (t : Transaction) (r : HoldReason) : (s.hold k t r).interest = s.interest := rfl
@[simp] theorem State.hold_neighbours (s : State) (k : Fin 8) (t : Transaction) (r : HoldReason) : (s.hold k t r).neighbours = s.neighbours := rfl
@[simp] theorem State.hold_profiles (s : State) (k : Fin 8) (t : Transaction) (r : HoldReason) : (s.hold k t r).profiles = s.profiles := rfl
@[simp] theorem State.hold_ports (s : State) (k : Fin 8) (t : Transaction) (r : HoldReason) : (s.hold k t r).ports = s.ports := rfl
@[simp] theorem State.hold_protection (s : State) (k : Fin 8) (t : Transaction) (r : HoldReason) : (s.hold k t r).protection = s.protection := rfl

@[simp] theorem State.postMove_pending (s : State) (k : Fin 8) (t : Transaction) (u : Nat) (c : Fin 4) : (s.postMove k t u c).pending = s.pending := rfl
@[simp] theorem State.postMove_resetPinLow (s : State) (k : Fin 8) (t : Transaction) (u : Nat) (c : Fin 4) : (s.postMove k t u c).resetPinLow = s.resetPinLow := rfl
@[simp] theorem State.postMove_visitors (s : State) (k : Fin 8) (t : Transaction) (u : Nat) (c : Fin 4) : (s.postMove k t u c).visitors = s.visitors := rfl
@[simp] theorem State.postMove_scoring (s : State) (k : Fin 8) (t : Transaction) (u : Nat) (c : Fin 4) : (s.postMove k t u c).scoring = s.scoring := rfl
@[simp] theorem State.postMove_claims (s : State) (k : Fin 8) (t : Transaction) (u : Nat) (c : Fin 4) : (s.postMove k t u c).claims = s.claims := rfl
@[simp] theorem State.postMove_sweep (s : State) (k : Fin 8) (t : Transaction) (u : Nat) (c : Fin 4) : (s.postMove k t u c).sweep = s.sweep := rfl
@[simp] theorem State.postMove_interest (s : State) (k : Fin 8) (t : Transaction) (u : Nat) (c : Fin 4) : (s.postMove k t u c).interest = s.interest := rfl
@[simp] theorem State.postMove_neighbours (s : State) (k : Fin 8) (t : Transaction) (u : Nat) (c : Fin 4) : (s.postMove k t u c).neighbours = s.neighbours := rfl
@[simp] theorem State.postMove_profiles (s : State) (k : Fin 8) (t : Transaction) (u : Nat) (c : Fin 4) : (s.postMove k t u c).profiles = s.profiles := rfl
@[simp] theorem State.postMove_protection (s : State) (k : Fin 8) (t : Transaction) (u : Nat) (c : Fin 4) : (s.postMove k t u c).protection = s.protection := rfl

/-! ## Sweep -/

@[simp] theorem State.endSweep_pending (s : State) : (s.endSweep).pending = s.pending := rfl
@[simp] theorem State.endSweep_resetPinLow (s : State) : (s.endSweep).resetPinLow = s.resetPinLow := rfl
@[simp] theorem State.endSweep_visitors (s : State) : (s.endSweep).visitors = s.visitors := rfl
@[simp] theorem State.endSweep_scoring (s : State) : (s.endSweep).scoring = s.scoring := rfl
@[simp] theorem State.endSweep_claims (s : State) : (s.endSweep).claims = s.claims := rfl
@[simp] theorem State.endSweep_handover (s : State) : (s.endSweep).handover = s.handover := rfl
@[simp] theorem State.endSweep_interest (s : State) : (s.endSweep).interest = s.interest := rfl
@[simp] theorem State.endSweep_neighbours (s : State) : (s.endSweep).neighbours = s.neighbours := rfl
@[simp] theorem State.endSweep_profiles (s : State) : (s.endSweep).profiles = s.profiles := rfl
@[simp] theorem State.endSweep_ports (s : State) : (s.endSweep).ports = s.ports := rfl
@[simp] theorem State.endSweep_protection (s : State) : (s.endSweep).protection = s.protection := rfl

@[simp] theorem State.startSweep_pending (s : State) : (s.startSweep).pending = s.pending := by unfold State.startSweep; dsimp only; split <;> rfl
@[simp] theorem State.startSweep_resetPinLow (s : State) : (s.startSweep).resetPinLow = s.resetPinLow := by unfold State.startSweep; dsimp only; split <;> rfl
@[simp] theorem State.startSweep_visitors (s : State) : (s.startSweep).visitors = s.visitors := by unfold State.startSweep; dsimp only; split <;> rfl
@[simp] theorem State.startSweep_scoring (s : State) : (s.startSweep).scoring = s.scoring := by unfold State.startSweep; dsimp only; split <;> rfl
@[simp] theorem State.startSweep_claims (s : State) : (s.startSweep).claims = s.claims := by unfold State.startSweep; dsimp only; split <;> rfl
@[simp] theorem State.startSweep_handover (s : State) : (s.startSweep).handover = s.handover := by unfold State.startSweep; dsimp only; split <;> rfl
@[simp] theorem State.startSweep_interest (s : State) : (s.startSweep).interest = s.interest := by unfold State.startSweep; dsimp only; split <;> rfl
@[simp] theorem State.startSweep_neighbours (s : State) : (s.startSweep).neighbours = s.neighbours := by unfold State.startSweep; dsimp only; split <;> rfl
@[simp] theorem State.startSweep_profiles (s : State) : (s.startSweep).profiles = s.profiles := by unfold State.startSweep; dsimp only; split <;> rfl
@[simp] theorem State.startSweep_protection (s : State) : (s.startSweep).protection = s.protection := by unfold State.startSweep; dsimp only; split <;> rfl

@[simp] theorem State.checkSweep_pending (s : State) : (s.checkSweep).pending = s.pending := by unfold State.checkSweep; split <;> [(dsimp only; split <;> simp); rfl]
@[simp] theorem State.checkSweep_resetPinLow (s : State) : (s.checkSweep).resetPinLow = s.resetPinLow := by unfold State.checkSweep; split <;> [(dsimp only; split <;> simp); rfl]
@[simp] theorem State.checkSweep_visitors (s : State) : (s.checkSweep).visitors = s.visitors := by unfold State.checkSweep; split <;> [(dsimp only; split <;> simp); rfl]
@[simp] theorem State.checkSweep_scoring (s : State) : (s.checkSweep).scoring = s.scoring := by unfold State.checkSweep; split <;> [(dsimp only; split <;> simp); rfl]
@[simp] theorem State.checkSweep_claims (s : State) : (s.checkSweep).claims = s.claims := by unfold State.checkSweep; split <;> [(dsimp only; split <;> simp); rfl]
@[simp] theorem State.checkSweep_handover (s : State) : (s.checkSweep).handover = s.handover := by unfold State.checkSweep; split <;> [(dsimp only; split <;> simp); rfl]
@[simp] theorem State.checkSweep_interest (s : State) : (s.checkSweep).interest = s.interest := by unfold State.checkSweep; split <;> [(dsimp only; split <;> simp); rfl]
@[simp] theorem State.checkSweep_neighbours (s : State) : (s.checkSweep).neighbours = s.neighbours := by unfold State.checkSweep; split <;> [(dsimp only; split <;> simp); rfl]
@[simp] theorem State.checkSweep_profiles (s : State) : (s.checkSweep).profiles = s.profiles := by unfold State.checkSweep; split <;> [(dsimp only; split <;> simp); rfl]
@[simp] theorem State.checkSweep_protection (s : State) : (s.checkSweep).protection = s.protection := by unfold State.checkSweep; split <;> [(dsimp only; split <;> simp); rfl]

@[simp] theorem State.stampVisited_pending (s : State) (i : Index) : (s.stampVisited i).pending = s.pending := rfl
@[simp] theorem State.stampVisited_resetPinLow (s : State) (i : Index) : (s.stampVisited i).resetPinLow = s.resetPinLow := rfl
@[simp] theorem State.stampVisited_scoring (s : State) (i : Index) : (s.stampVisited i).scoring = s.scoring := rfl
@[simp] theorem State.stampVisited_claims (s : State) (i : Index) : (s.stampVisited i).claims = s.claims := rfl
@[simp] theorem State.stampVisited_handover (s : State) (i : Index) : (s.stampVisited i).handover = s.handover := rfl
@[simp] theorem State.stampVisited_interest (s : State) (i : Index) : (s.stampVisited i).interest = s.interest := rfl
@[simp] theorem State.stampVisited_neighbours (s : State) (i : Index) : (s.stampVisited i).neighbours = s.neighbours := rfl
@[simp] theorem State.stampVisited_profiles (s : State) (i : Index) : (s.stampVisited i).profiles = s.profiles := rfl
@[simp] theorem State.stampVisited_ports (s : State) (i : Index) : (s.stampVisited i).ports = s.ports := rfl
@[simp] theorem State.stampVisited_protection (s : State) (i : Index) : (s.stampVisited i).protection = s.protection := rfl

/-! ## Arbiter -/

@[simp] theorem State.postRefresh_pending (s : State) : (s.postRefresh).pending = s.pending := rfl
@[simp] theorem State.postRefresh_resetPinLow (s : State) : (s.postRefresh).resetPinLow = s.resetPinLow := rfl
@[simp] theorem State.postRefresh_visitors (s : State) : (s.postRefresh).visitors = s.visitors := rfl
@[simp] theorem State.postRefresh_scoring (s : State) : (s.postRefresh).scoring = s.scoring := rfl
@[simp] theorem State.postRefresh_claims (s : State) : (s.postRefresh).claims = s.claims := rfl
@[simp] theorem State.postRefresh_sweep (s : State) : (s.postRefresh).sweep = s.sweep := rfl
@[simp] theorem State.postRefresh_handover (s : State) : (s.postRefresh).handover = s.handover := rfl
@[simp] theorem State.postRefresh_interest (s : State) : (s.postRefresh).interest = s.interest := rfl
@[simp] theorem State.postRefresh_neighbours (s : State) : (s.postRefresh).neighbours = s.neighbours := rfl
@[simp] theorem State.postRefresh_profiles (s : State) : (s.postRefresh).profiles = s.profiles := rfl
@[simp] theorem State.postRefresh_protection (s : State) : (s.postRefresh).protection = s.protection := rfl

@[simp] theorem State.postClaim_pending (s : State) (e : PendingClaim) : (s.postClaim e).pending = s.pending := rfl
@[simp] theorem State.postClaim_resetPinLow (s : State) (e : PendingClaim) : (s.postClaim e).resetPinLow = s.resetPinLow := rfl
@[simp] theorem State.postClaim_scoring (s : State) (e : PendingClaim) : (s.postClaim e).scoring = s.scoring := rfl
@[simp] theorem State.postClaim_sweep (s : State) (e : PendingClaim) : (s.postClaim e).sweep = s.sweep := rfl
@[simp] theorem State.postClaim_handover (s : State) (e : PendingClaim) : (s.postClaim e).handover = s.handover := rfl
@[simp] theorem State.postClaim_interest (s : State) (e : PendingClaim) : (s.postClaim e).interest = s.interest := rfl
@[simp] theorem State.postClaim_neighbours (s : State) (e : PendingClaim) : (s.postClaim e).neighbours = s.neighbours := rfl
@[simp] theorem State.postClaim_profiles (s : State) (e : PendingClaim) : (s.postClaim e).profiles = s.profiles := rfl
@[simp] theorem State.postClaim_protection (s : State) (e : PendingClaim) : (s.postClaim e).protection = s.protection := rfl

@[simp] theorem State.postLeave_pending (s : State) (tg : Nat) : (s.postLeave tg).pending = s.pending := rfl
@[simp] theorem State.postLeave_resetPinLow (s : State) (tg : Nat) : (s.postLeave tg).resetPinLow = s.resetPinLow := rfl
@[simp] theorem State.postLeave_visitors (s : State) (tg : Nat) : (s.postLeave tg).visitors = s.visitors := rfl
@[simp] theorem State.postLeave_scoring (s : State) (tg : Nat) : (s.postLeave tg).scoring = s.scoring := rfl
@[simp] theorem State.postLeave_claims (s : State) (tg : Nat) : (s.postLeave tg).claims = s.claims := rfl
@[simp] theorem State.postLeave_sweep (s : State) (tg : Nat) : (s.postLeave tg).sweep = s.sweep := rfl
@[simp] theorem State.postLeave_handover (s : State) (tg : Nat) : (s.postLeave tg).handover = s.handover := rfl
@[simp] theorem State.postLeave_neighbours (s : State) (tg : Nat) : (s.postLeave tg).neighbours = s.neighbours := rfl
@[simp] theorem State.postLeave_profiles (s : State) (tg : Nat) : (s.postLeave tg).profiles = s.profiles := rfl
@[simp] theorem State.postLeave_protection (s : State) (tg : Nat) : (s.postLeave tg).protection = s.protection := rfl

@[simp] theorem State.postJoin_pending (s : State) (k : Place) (tg : Nat) : (s.postJoin k tg).pending = s.pending := rfl
@[simp] theorem State.postJoin_resetPinLow (s : State) (k : Place) (tg : Nat) : (s.postJoin k tg).resetPinLow = s.resetPinLow := rfl
@[simp] theorem State.postJoin_visitors (s : State) (k : Place) (tg : Nat) : (s.postJoin k tg).visitors = s.visitors := rfl
@[simp] theorem State.postJoin_scoring (s : State) (k : Place) (tg : Nat) : (s.postJoin k tg).scoring = s.scoring := rfl
@[simp] theorem State.postJoin_claims (s : State) (k : Place) (tg : Nat) : (s.postJoin k tg).claims = s.claims := rfl
@[simp] theorem State.postJoin_sweep (s : State) (k : Place) (tg : Nat) : (s.postJoin k tg).sweep = s.sweep := rfl
@[simp] theorem State.postJoin_handover (s : State) (k : Place) (tg : Nat) : (s.postJoin k tg).handover = s.handover := rfl
@[simp] theorem State.postJoin_neighbours (s : State) (k : Place) (tg : Nat) : (s.postJoin k tg).neighbours = s.neighbours := rfl
@[simp] theorem State.postJoin_profiles (s : State) (k : Place) (tg : Nat) : (s.postJoin k tg).profiles = s.profiles := rfl
@[simp] theorem State.postJoin_protection (s : State) (k : Place) (tg : Nat) : (s.postJoin k tg).protection = s.protection := rfl

@[simp] theorem State.grant_pending (s : State) (k : Fin 8) (i : Index) (r : Record) : (s.grant k i r).pending = s.pending := rfl
@[simp] theorem State.grant_resetPinLow (s : State) (k : Fin 8) (i : Index) (r : Record) : (s.grant k i r).resetPinLow = s.resetPinLow := rfl
@[simp] theorem State.grant_scoring (s : State) (k : Fin 8) (i : Index) (r : Record) : (s.grant k i r).scoring = s.scoring := rfl
@[simp] theorem State.grant_claims (s : State) (k : Fin 8) (i : Index) (r : Record) : (s.grant k i r).claims = s.claims := rfl
@[simp] theorem State.grant_sweep (s : State) (k : Fin 8) (i : Index) (r : Record) : (s.grant k i r).sweep = s.sweep := rfl
@[simp] theorem State.grant_interest (s : State) (k : Fin 8) (i : Index) (r : Record) : (s.grant k i r).interest = s.interest := rfl
@[simp] theorem State.grant_neighbours (s : State) (k : Fin 8) (i : Index) (r : Record) : (s.grant k i r).neighbours = s.neighbours := rfl
@[simp] theorem State.grant_profiles (s : State) (k : Fin 8) (i : Index) (r : Record) : (s.grant k i r).profiles = s.profiles := rfl
@[simp] theorem State.grant_protection (s : State) (k : Fin 8) (i : Index) (r : Record) : (s.grant k i r).protection = s.protection := rfl

@[simp] theorem State.refreshLines_pending (s : State) : (s.refreshLines).pending = s.pending := rfl
@[simp] theorem State.refreshLines_resetPinLow (s : State) : (s.refreshLines).resetPinLow = s.resetPinLow := rfl
@[simp] theorem State.refreshLines_visitors (s : State) : (s.refreshLines).visitors = s.visitors := rfl
@[simp] theorem State.refreshLines_scoring (s : State) : (s.refreshLines).scoring = s.scoring := rfl
@[simp] theorem State.refreshLines_claims (s : State) : (s.refreshLines).claims = s.claims := rfl
@[simp] theorem State.refreshLines_sweep (s : State) : (s.refreshLines).sweep = s.sweep := rfl
@[simp] theorem State.refreshLines_handover (s : State) : (s.refreshLines).handover = s.handover := rfl
@[simp] theorem State.refreshLines_interest (s : State) : (s.refreshLines).interest = s.interest := rfl
@[simp] theorem State.refreshLines_neighbours (s : State) : (s.refreshLines).neighbours = s.neighbours := rfl
@[simp] theorem State.refreshLines_profiles (s : State) : (s.refreshLines).profiles = s.profiles := rfl
@[simp] theorem State.refreshLines_protection (s : State) : (s.refreshLines).protection = s.protection := rfl

end Sys2Proof.Machine
end

