-- ==== Sys2Proof/Laws/Tables.lean ====
section
/-! SUPPORT. What the operations over tables read back: places, records, channels, notices on the outbound lines. -/

namespace Sys2Proof.Machine

/-! ## Tables -/

theorem mapTable_eq_map {α β : Type} {n : Nat} (f : α → β) (v : Vector α n) : mapTable f v = v.map f := by
  ext i hi
  simp [mapTable]

@[simp] theorem getElem_mapTable {α β : Type} {n : Nat} (f : α → β) (v : Vector α n) (i : Nat) (h : i < n) :
    (mapTable f v)[i] = f v[i] := by
  simp [mapTable_eq_map]

@[simp] theorem toList_mapTable {α β : Type} {n : Nat} (f : α → β) (v : Vector α n) :
    (mapTable f v).toList = v.toList.map f := by
  obtain ⟨⟨l⟩, h⟩ := v
  rfl

/-- A place that firstPlace? names passes the test, and no lower one does. -/
theorem firstPlace?_eq_some {α : Type} {n : Nat} {v : Vector α n} {test : α → Bool} {k : Fin n} :
    firstPlace? v test = some k ↔ test v[k] = true ∧ ∀ j : Fin n, j < k → test v[j] = false := by
  unfold firstPlace?
  constructor
  · intro h
    obtain ⟨m, hm, hk⟩ := Option.bind_eq_some_iff.mp h
    rw [List.findIdx?_eq_some_iff_getElem] at hm
    obtain ⟨hl, hp, hn⟩ := hm
    split at hk
    · obtain rfl := Option.some.inj hk
      refine ⟨by simpa using hp, fun j hj => ?_⟩
      have := hn j.val hj
      simpa using this
    · simp at hk
  · rintro ⟨hp, hn⟩
    refine Option.bind_eq_some_iff.mpr ⟨k.val, ?_, by simp⟩
    rw [List.findIdx?_eq_some_iff_getElem]
    refine ⟨by simp, by simpa using hp, fun j hj => ?_⟩
    have := hn ⟨j, by omega⟩ hj
    simpa using this

/-- No place passes the test when firstPlace? names none. -/
theorem firstPlace?_eq_none {α : Type} {n : Nat} {v : Vector α n} {test : α → Bool} :
    firstPlace? v test = none ↔ ∀ k : Fin n, test v[k] = false := by
  constructor
  · intro h k
    by_contra hk
    have hex : ∃ m, v.toList.findIdx? test = some m := by
      rw [← Option.isSome_iff_exists, List.findIdx?_isSome]
      simp only [List.any_eq_true, Vector.mem_toList_iff]
      exact ⟨v[k], by simp, by simpa using hk⟩
    obtain ⟨m, hm⟩ := hex
    unfold firstPlace? at h
    rw [hm] at h
    have hl : m < v.toList.length := (List.findIdx?_eq_some_iff_getElem.mp hm).1
    simp at hl
    simp [hl] at h
  · intro h
    cases hf : firstPlace? v test with
    | none => rfl
    | some k => exact absurd ((firstPlace?_eq_some.mp hf).1.symm.trans (h k)) (by simp)

/-- firstPlace? is the search through the places in order. -/
theorem firstPlace?_eq_find? {α : Type} {n : Nat} (v : Vector α n) (test : α → Bool) :
    firstPlace? v test = (List.finRange n).find? (fun k => test v[k]) := by
  cases hf : firstPlace? v test with
  | none =>
    symm
    rw [List.find?_eq_none]
    intro k _
    rw [firstPlace?_eq_none.mp hf k]
    simp
  | some k =>
    obtain ⟨hp, hn⟩ := firstPlace?_eq_some.mp hf
    symm
    rw [List.find?_eq_some_iff_getElem]
    refine ⟨hp, k.val, by simp, by simp, fun j hj => ?_⟩
    have := hn ⟨j, by omega⟩ hj
    simpa using this

/-! ## Records -/

@[simp] theorem State.record?_modifyRecord (s : State) (i j : Index) (f : Record → Record) :
    (s.modifyRecord i f).record? j = if j = i then (s.record? i).map f else s.record? j := by
  unfold State.modifyRecord VisitorTable.modify State.record?
  simp only [Fin.getElem_fin, Vector.getElem_set]
  by_cases h : j = i
  · simp [h]
  · have : ¬ i.val = j.val := fun e => h (Fin.ext e.symm)
    simp [h, this]

@[simp] theorem State.record?_mapRecords (s : State) (j : Index) (f : Record → Record) :
    (s.mapRecords f).record? j = (s.record? j).map f := by
  simp [State.mapRecords, State.record?]

/-- A record read back depends on the records alone. -/
theorem State.record?_congr {s t : State} (h : s.visitors.records = t.visitors.records) (j : Index) :
    s.record? j = t.record? j := by
  simp [State.record?, h]

@[simp] theorem State.record?_toTail (s : State) (i j : Index) : (s.toTail i).record? j = s.record? j := rfl

@[simp] theorem State.record?_markHeard (s : State) (i j : Index) :
    (s.markHeard i).record? j = if j = i then (s.record? i).map (fun r => { r with heard := true }) else s.record? j := by
  simp [State.markHeard]

@[simp] theorem State.record?_confirm (s : State) (p : Port) (c : Confirmation) (j : Index) :
    (s.confirm p c).record? j = s.record? j := State.record?_congr (by simp) j

@[simp] theorem State.record?_withdraw (s : State) (i j : Index) :
    (s.withdraw i).record? j = if j = i then (s.record? i).map Record.unqueued else s.record? j :=
  State.record?_modifyRecord s i j Record.unqueued

@[simp] theorem State.record?_dropClaim (s : State) (i j : Index) :
    (s.dropClaim i).record? j = if j = i then (s.record? i).map (fun r => { r with claimPending := false }) else s.record? j :=
  State.record?_modifyRecord s i j _

/-! ## Outbound lines -/

theorem State.outbound_congr {s t : State} (h : s.ports = t.ports) (p : Port) : s.outbound p = t.outbound p := by
  cases p <;> simp [State.outbound, h]

@[simp] theorem State.outbound_setOutbound (s : State) (l : List Confirmation) (p : Port) : (s.setOutbound l p).outbound p = l := by
  cases p <;> simp [State.setOutbound, State.outbound, State.modifyMaintenance, State.modifyLink, State.modifyChannel]

/-- A confirmation is placed behind those that wait on its port. -/
@[simp] theorem State.outbound_confirm (s : State) (p : Port) (c : Confirmation) : (s.confirm p c).outbound p = s.outbound p ++ [c] := by
  simp [State.confirm]

end Sys2Proof.Machine
end

