-- ==== Sys2Proof/Laws/Arbiter.lean ====
section
/-! SUPPORT. What the room arbiter and the end of a step do (07 R145, R146; log entry 14): the cases of one grant, what every grant
leaves alone, and that a settled state is left as it is. -/

namespace Sys2Proof.Machine

/-! ## One grant -/

/-- One place goes to the highest-ranked producer with an item owed (R146). -/
theorem State.grantPlace_cases {s t : State} (h : s.grantPlace = some t) :
    s.linkHasRoom = true ∧
      ((s.ports.link.refreshOwed = true ∧ t = s.postRefresh)
        ∨ (s.ports.link.refreshOwed = false ∧ ∃ e rest, s.claims = e :: rest ∧ t = s.postClaim e)
        ∨ (s.ports.link.refreshOwed = false ∧ s.claims = [] ∧ ∃ tg rest, s.interest.owedLeaves = tg :: rest ∧ t = s.postLeave tg)
        ∨ (s.ports.link.refreshOwed = false ∧ s.claims = [] ∧ s.interest.owedLeaves = []
            ∧ ∃ k tg, s.interest.nextJoin? = some (k, tg) ∧ t = s.postJoin k tg)
        ∨ (s.ports.link.refreshOwed = false ∧ s.claims = [] ∧ s.interest.owedLeaves = [] ∧ s.interest.nextJoin? = none
            ∧ ∃ k i r, s.nextGrant? = some (k, i, r) ∧ t = s.grant k i r)) := by
  unfold State.grantPlace at h
  split at h
  case isFalse => simp at h
  case isTrue hr =>
    refine ⟨hr, ?_⟩
    split at h
    · left; exact ⟨by assumption, by simpa using h.symm⟩
    · rename_i hf
      simp only [Bool.not_eq_true] at hf
      split at h
      · rename_i e rest hc
        right; left; exact ⟨hf, e, rest, hc, by simpa using h.symm⟩
      · rename_i hc
        split at h
        · rename_i tg rest hl
          right; right; left; exact ⟨hf, hc, tg, rest, hl, by simpa using h.symm⟩
        · rename_i hl
          split at h
          · rename_i k tg hj
            right; right; right; left; exact ⟨hf, hc, hl, k, tg, hj, by simpa using h.symm⟩
          · rename_i hj
            split at h
            · rename_i k i r hg
              right; right; right; right; exact ⟨hf, hc, hl, hj, k, i, r, hg, by simpa using h.symm⟩
            · simp at h

/-- No place is granted exactly when there is no room or nothing is owed (R145). -/
theorem State.grantPlace_eq_none {s : State} :
    s.grantPlace = none ↔ (s.linkHasRoom = true →
      s.ports.link.refreshOwed = false ∧ s.claims = [] ∧ s.interest.owedLeaves = [] ∧ s.interest.nextJoin? = none
        ∧ s.nextGrant? = none) := by
  unfold State.grantPlace
  constructor
  · intro h hr
    simp only [hr, if_true] at h
    split at h
    · simp at h
    · rename_i hf
      simp only [Bool.not_eq_true] at hf
      split at h
      · simp at h
      · split at h
        · simp at h
        · split at h
          · simp at h
          · split at h
            · simp at h
            · exact ⟨hf, by assumption, by assumption, by assumption, by assumption⟩
  · intro h
    split
    · rename_i hr
      obtain ⟨h1, h2, h3, h4, h5⟩ := h hr
      simp [h1, h2, h3, h4, h5]
    · rfl

/-- A grant posts one notice at the tail of the link queue (R145). -/
theorem State.grantPlace_queue {s t : State} (h : s.grantPlace = some t) :
    ∃ n, t.ports.link.queue = s.ports.link.queue ++ [⟨n, 0⟩] ∧ t.ports.link.isOpen = s.ports.link.isOpen := by
  obtain ⟨_, h1 | h1 | h1 | h1 | h1⟩ := State.grantPlace_cases h
  · obtain ⟨_, rfl⟩ := h1; exact ⟨_, rfl, rfl⟩
  · obtain ⟨_, e, rest, _, rfl⟩ := h1; exact ⟨_, rfl, rfl⟩
  · obtain ⟨_, _, tg, rest, _, rfl⟩ := h1; exact ⟨_, rfl, rfl⟩
  · obtain ⟨_, _, _, k, tg, _, rfl⟩ := h1; exact ⟨_, rfl, rfl⟩
  · obtain ⟨_, _, _, _, k, i, r, _, rfl⟩ := h1; exact ⟨_, rfl, rfl⟩

/-! ## What every grant leaves alone -/

theorem Record.keptBy_refl (r : Record) : r.keptBy r := rfl

theorem Record.keptBy_trans {a b c : Record} (h : a.keptBy b) (g : b.keptBy c) : a.keptBy c := by
  unfold Record.keptBy at *
  rw [h] at g
  exact g

theorem EndOfStepFrame.refl (s : State) : EndOfStepFrame s s where
  pending := rfl
  resetPinLow := rfl
  scoring := rfl
  neighbours := rfl
  profiles := rfl
  protection := rfl
  chains := rfl
  age := rfl
  free := rfl
  reserve := rfl
  alarms := rfl
  isOpen := rfl
  allowance := rfl
  threshold := rfl
  channelState _ := rfl
  channelQueue _ := rfl
  outbound _ := rfl
  sweepTimer := rfl
  sweep _ := ⟨rfl, fun _ => rfl⟩
  posted := ⟨[], by simp⟩
  refreshOwed h := h
  vacant _ h := h
  record _ r h := ⟨r, h, r.keptBy_refl⟩
  bystander _ r h _ := ⟨r, h, rfl⟩
  unclaimed _ r h _ := ⟨r, h, rfl⟩
  queues _ := List.Sublist.refl _
  slots _ _ _ := rfl
  claims := List.suffix_rfl
  owedLeaves := List.suffix_rfl
  leaving := rfl
  places _ := rfl
  noRoom _ := ⟨rfl, rfl, rfl, rfl, rfl, rfl⟩

theorem EndOfStepFrame.linkHasRoom {s t : State} (h : EndOfStepFrame s t) (hs : s.linkHasRoom = false) : t.linkHasRoom = false := by
  have hn := (h.noRoom hs).2.2.2.2.1
  unfold State.linkHasRoom at *
  rw [h.isOpen, hn]
  exact hs

theorem EndOfStepFrame.trans {a b c : State} (h : EndOfStepFrame a b) (g : EndOfStepFrame b c) : EndOfStepFrame a c where
  pending := g.pending.trans h.pending
  resetPinLow := g.resetPinLow.trans h.resetPinLow
  scoring := g.scoring.trans h.scoring
  neighbours := g.neighbours.trans h.neighbours
  profiles := g.profiles.trans h.profiles
  protection := g.protection.trans h.protection
  chains := g.chains.trans h.chains
  age := g.age.trans h.age
  free := g.free.trans h.free
  reserve := g.reserve.trans h.reserve
  alarms := g.alarms.trans h.alarms
  isOpen := g.isOpen.trans h.isOpen
  allowance := g.allowance.trans h.allowance
  threshold := g.threshold.trans h.threshold
  channelState c := (g.channelState c).trans (h.channelState c)
  channelQueue c := (g.channelQueue c).trans (h.channelQueue c)
  outbound p := (g.outbound p).trans (h.outbound p)
  sweepTimer := g.sweepTimer.trans h.sweepTimer
  sweep ha := by
    obtain ⟨h1, h2⟩ := h.sweep ha
    obtain ⟨g1, g2⟩ := g.sweep (by rw [h1]; exact ha)
    exact ⟨g1.trans h1, fun d => (g2 d).trans (h2 d)⟩
  posted := by
    obtain ⟨l, hl⟩ := h.posted
    obtain ⟨m, hm⟩ := g.posted
    exact ⟨l ++ m, by rw [hm, hl]; simp⟩
  refreshOwed ha := g.refreshOwed (h.refreshOwed ha)
  vacant i hi := g.vacant i (h.vacant i hi)
  record i r hr := by
    obtain ⟨q, hq, h1⟩ := h.record i r hr
    obtain ⟨p, hp, h2⟩ := g.record i q hq
    exact ⟨p, hp, Record.keptBy_trans h1 h2⟩
  bystander i r hr hn := by
    obtain ⟨q, hq, h1⟩ := h.bystander i r hr hn
    obtain ⟨p, hp, h2⟩ := g.bystander i q hq (fun d hd => hn d ((h.queues d).subset hd))
    refine ⟨p, hp, ?_⟩
    rw [h1] at h2
    exact h2
  unclaimed i r hr hn := by
    obtain ⟨q, hq, h1⟩ := h.unclaimed i r hr hn
    obtain ⟨p, hp, h2⟩ := g.unclaimed i q hq
      (fun hd => hn ((List.IsSuffix.map PendingClaim.index h.claims).subset hd))
    exact ⟨p, hp, h2.trans h1⟩
  queues d := (g.queues d).trans (h.queues d)
  slots k x hx := by
    have h1 := h.slots k x hx
    exact (g.slots k x (by rw [h1]; exact hx)).trans h1
  claims := g.claims.trans h.claims
  owedLeaves := g.owedLeaves.trans h.owedLeaves
  leaving := g.leaving.trans h.leaving
  places k := (g.places k).trans (h.places k)
  noRoom ha := by
    obtain ⟨h1, h2, h3, h4, h5, h6⟩ := h.noRoom ha
    obtain ⟨g1, g2, g3, g4, g5, g6⟩ := g.noRoom (h.linkHasRoom ha)
    exact ⟨g1.trans h1, g2.trans h2, g3.trans h3, g4.trans h4, g5.trans h5, g6.trans h6⟩

theorem State.outbound_postLink (s : State) (n : LinkNotice) (p : Port) : (s.postLink n).outbound p = s.outbound p := by
  cases p <;> rfl

/-- One grant, from what it does to the records, the claims, the handover unit and the interest map. -/
theorem EndOfStepFrame.of_grant {s t : State} {n : LinkNotice} (room : s.linkHasRoom = true)
    (h : t = { s with
      visitors := { s.visitors with records := t.visitors.records }
      claims := t.claims
      handover := t.handover
      interest := t.interest
      ports := { s.ports with link := { s.ports.link with
        refreshOwed := t.ports.link.refreshOwed, queue := s.ports.link.queue ++ [⟨n, 0⟩] } } })
    (refreshOwed : s.ports.link.refreshOwed = false → t.ports.link.refreshOwed = false)
    (vacant : ∀ i : Index, s.record? i = none → t.record? i = none)
    (record : ∀ (i : Index) (r : Record), s.record? i = some r → ∃ q, t.record? i = some q ∧ r.keptBy q
      ∧ ((∀ c : Fin 4, i ∉ s.handover.queues[c]) → q = { r with claimPending := q.claimPending })
      ∧ (i ∉ s.claims.map PendingClaim.index → q.claimPending = r.claimPending))
    (queues : ∀ c : Fin 4, (t.handover.queues[c]).Sublist s.handover.queues[c])
    (slots : ∀ (k : Fin 8) (x : Transaction), s.handover.slots[k].transaction = some x → t.handover.slots[k] = s.handover.slots[k])
    (claims : t.claims <:+ s.claims) (owedLeaves : t.interest.owedLeaves <:+ s.interest.owedLeaves)
    (leaving : t.interest.leaving = s.interest.leaving)
    (places : ∀ k : Place, t.interest.places[k].map MapEntry.body = s.interest.places[k].map MapEntry.body) : EndOfStepFrame s t := by
  have hp : t.ports = { s.ports with link := { s.ports.link with
      refreshOwed := t.ports.link.refreshOwed, queue := s.ports.link.queue ++ [⟨n, 0⟩] } } := by rw [h]
  have hv : t.visitors = { s.visitors with records := t.visitors.records } := by rw [h]
  have hw : t.sweep = s.sweep := by rw [h]
  exact {
    pending := by rw [h]
    resetPinLow := by rw [h]
    scoring := by rw [h]
    neighbours := by rw [h]
    profiles := by rw [h]
    protection := by rw [h]
    chains := by rw [hv]
    age := by rw [hv]
    free := by rw [hv]
    reserve := by rw [hv]
    alarms := by rw [hp]
    isOpen := by rw [hp]
    allowance := by rw [hp]
    threshold := by rw [hp]
    channelState := fun c => by rw [hp]
    channelQueue := fun c => by rw [hp]
    outbound := fun p => by cases p <;> (unfold State.outbound; rw [hp])
    sweepTimer := by rw [hw]
    sweep := fun _ => ⟨hw, fun c => by rw [hp]⟩
    posted := ⟨[n], by rw [hp]; rfl⟩
    refreshOwed := refreshOwed
    vacant := vacant
    record := fun i r hr => by
      obtain ⟨q, h1, h2, _⟩ := record i r hr
      exact ⟨q, h1, h2⟩
    bystander := fun i r hr hn => by
      obtain ⟨q, h1, _, h2, _⟩ := record i r hr
      exact ⟨q, h1, h2 hn⟩
    unclaimed := fun i r hr hn => by
      obtain ⟨q, h1, _, _, h2⟩ := record i r hr
      exact ⟨q, h1, h2 hn⟩
    queues := queues
    slots := slots
    claims := claims
    owedLeaves := owedLeaves
    leaving := leaving
    places := places
    noRoom := fun hr => by rw [room] at hr; exact absurd hr (by simp) }

/-- A record that a grant does not touch. -/
theorem grant_leaves_record {s t : State} (h : ∀ i : Index, t.record? i = s.record? i) :
    ∀ (i : Index) (r : Record), s.record? i = some r → ∃ q, t.record? i = some q ∧ r.keptBy q
      ∧ ((∀ c : Fin 4, i ∉ s.handover.queues[c]) → q = { r with claimPending := q.claimPending })
      ∧ (i ∉ s.claims.map PendingClaim.index → q.claimPending = r.claimPending) :=
  fun i r hr => ⟨r, (h i).trans hr, r.keptBy_refl, fun _ => rfl, fun _ => rfl⟩

theorem State.kept_postRefresh {s : State} (room : s.linkHasRoom = true) : EndOfStepFrame s s.postRefresh :=
  EndOfStepFrame.of_grant (n := .refresh s.protection.site) room rfl (fun _ => rfl) (fun _ h => h) (grant_leaves_record (fun _ => rfl))
    (fun _ => List.Sublist.refl _) (fun _ _ _ => rfl) List.suffix_rfl List.suffix_rfl rfl (fun _ => rfl)

theorem State.kept_postClaim {s : State} {e : PendingClaim} {rest : List PendingClaim} (room : s.linkHasRoom = true)
    (hc : s.claims = e :: rest) : EndOfStepFrame s (s.postClaim e) := by
  have hrec : ∀ i : Index, (s.postClaim e).record? i =
      if i = e.index then (s.record? e.index).map (fun r => { r with claimPending := false }) else s.record? i := by
    intro i
    exact s.record?_modifyRecord e.index i (fun r => { r with claimPending := false })
  refine EndOfStepFrame.of_grant (n := _) room rfl (fun h => h) (fun i h => ?_) (fun i r h => ?_)
    (fun _ => List.Sublist.refl _) (fun _ _ _ => rfl) ?_ List.suffix_rfl rfl (fun _ => rfl)
  · rw [hrec]
    split
    · rename_i hi; subst hi; simp [h]
    · exact h
  · rw [hrec]
    by_cases hi : i = e.index
    · subst hi
      refine ⟨{ r with claimPending := false }, by simp [h], rfl, fun _ => rfl, fun hn => ?_⟩
      exact absurd (by simp [hc]) hn
    · exact ⟨r, by simp [hi, h], r.keptBy_refl, fun _ => rfl, fun _ => rfl⟩
  · have : (s.postClaim e).claims = s.claims.tail := rfl
    rw [this]
    exact List.tail_suffix _

theorem State.kept_postLeave {s : State} {tg : Nat} (room : s.linkHasRoom = true) : EndOfStepFrame s (s.postLeave tg) := by
  refine EndOfStepFrame.of_grant (n := .leave tg s.protection.site) room rfl (fun h => h) (fun _ h => h)
    (grant_leaves_record (fun _ => rfl)) (fun _ => List.Sublist.refl _) (fun _ _ _ => rfl) List.suffix_rfl (List.tail_suffix _) rfl
    (fun k => ?_)
  have : (s.postLeave tg).interest = s.interest.leavePosted tg := rfl
  rw [this]
  unfold InterestMap.leavePosted
  simp only [Fin.getElem_fin, getElem_mapTable, Option.map_map]
  cases s.interest.places[k.val] with
  | none => rfl
  | some e =>
    simp only [Option.map_some, Function.comp]
    split <;> rfl

theorem State.kept_postJoin {s : State} {k : Place} {tg : Nat} (room : s.linkHasRoom = true) : EndOfStepFrame s (s.postJoin k tg) := by
  refine EndOfStepFrame.of_grant (n := .join tg s.protection.site) room rfl (fun h => h) (fun _ h => h)
    (grant_leaves_record (fun _ => rfl)) (fun _ => List.Sublist.refl _) (fun _ _ _ => rfl) List.suffix_rfl List.suffix_rfl rfl
    (fun j => ?_)
  have : (s.postJoin k tg).interest = s.interest.markAnnounced k := rfl
  rw [this]
  unfold InterestMap.markAnnounced InterestMap.setPlace
  simp only [Fin.getElem_fin, Vector.getElem_set]
  split
  · rename_i h
    have hk : k = j := Fin.ext h
    subst hk
    cases s.interest.places[k.val] <;> rfl
  · rfl

/-- The arbiter's candidate is a FREE slot and the head of a class queue (R94). -/
theorem State.nextGrant?_eq_some {s : State} {k : Fin 8} {i : Index} {r : Record} (h : s.nextGrant? = some (k, i, r)) :
    s.handover.slots[k].transaction = none ∧ (∃ c : Fin 4, i ∈ s.handover.queues[c]) ∧ s.record? i = some r := by
  unfold State.nextGrant? at h
  obtain ⟨k', hk, h⟩ := Option.bind_eq_some_iff.mp h
  obtain ⟨i', hi, h⟩ := Option.bind_eq_some_iff.mp h
  obtain ⟨r', hr, h⟩ := Option.map_eq_some_iff.mp h
  simp only [Prod.mk.injEq] at h
  obtain ⟨rfl, rfl, rfl⟩ := h
  refine ⟨?_, ?_, hr⟩
  · unfold HandoverUnit.freeSlot? at hk
    simpa using List.find?_some hk
  · unfold HandoverUnit.nextQueued? at hi
    obtain ⟨c, _, hc⟩ := List.exists_of_findSome?_eq_some hi
    exact ⟨c, List.mem_of_mem_head? hc⟩

theorem State.kept_grant {s : State} {k : Fin 8} {i : Index} {r : Record} (room : s.linkHasRoom = true)
    (hg : s.nextGrant? = some (k, i, r)) : EndOfStepFrame s (s.grant k i r) := by
  obtain ⟨hk, ⟨c, hc⟩, _⟩ := State.nextGrant?_eq_some hg
  have hrec : ∀ j : Index, (s.grant k i r).record? j = if j = i then (s.record? i).map (fun x => x.granted k) else s.record? j :=
    fun j => s.record?_modifyRecord i j (fun x => x.granted k)
  refine EndOfStepFrame.of_grant (n := _) room rfl (fun h => h) (fun j h => ?_) (fun j x h => ?_) (fun d => ?_) (fun j x hx => ?_)
    List.suffix_rfl List.suffix_rfl rfl (fun _ => rfl)
  · rw [hrec]
    split
    · rename_i hi; subst hi; simp [h]
    · exact h
  · rw [hrec]
    by_cases hi : j = i
    · subst hi
      exact ⟨x.granted k, by simp [h], rfl, fun hn => absurd hc (hn c), fun _ => rfl⟩
    · exact ⟨x, by simp [hi, h], x.keptBy_refl, fun _ => rfl, fun _ => rfl⟩
  · have : (s.grant k i r).handover.queues = s.handover.queues.map (fun q => q.filter (fun j => j != i)) := rfl
    rw [this]
    simp
  · have hs : (s.grant k i r).handover.slots = s.handover.slots.set k (s.handover.slots[k].granted i (r.target.getD 0) s.selected) := rfl
    have hj : k ≠ j := by rintro rfl; rw [hk] at hx; simp at hx
    have hj' : ¬ k.val = j.val := fun e => hj (Fin.ext e)
    rw [hs]
    simp [hj']

theorem State.kept_grantPlace {s t : State} (h : s.grantPlace = some t) : EndOfStepFrame s t := by
  obtain ⟨room, h1 | h1 | h1 | h1 | h1⟩ := State.grantPlace_cases h
  · obtain ⟨_, rfl⟩ := h1; exact State.kept_postRefresh room
  · obtain ⟨_, e, rest, hc, rfl⟩ := h1; exact State.kept_postClaim room hc
  · obtain ⟨_, _, tg, rest, _, rfl⟩ := h1; exact State.kept_postLeave room
  · obtain ⟨_, _, _, k, tg, _, rfl⟩ := h1; exact State.kept_postJoin room
  · obtain ⟨_, _, _, _, k, i, r, hg, rfl⟩ := h1; exact State.kept_grant room hg

/-! ## All the grants of a step -/

/-- What one grant keeps, all of them keep. -/
theorem State.grantPlaces_induction {P : State → Prop} (step : ∀ s t : State, s.grantPlace = some t → P s → P t) :
    ∀ (fuel : Nat) (s : State), P s → P (s.grantPlaces fuel) := by
  intro fuel
  induction fuel with
  | zero => intro s h; exact h
  | succ n ih =>
    intro s h
    unfold State.grantPlaces
    split
    · rename_i t ht; exact ih t (step s t ht h)
    · exact h

theorem State.grantPlaces_eq_self {s : State} (h : s.grantPlace = none) (fuel : Nat) : s.grantPlaces fuel = s := by
  cases fuel with
  | zero => rfl
  | succ n => simp [State.grantPlaces, h]

theorem State.kept_grantPlaces (fuel : Nat) (s : State) : EndOfStepFrame s (s.grantPlaces fuel) :=
  State.grantPlaces_induction (P := fun t => EndOfStepFrame s t) (fun _ _ h k => k.trans (State.kept_grantPlace h)) fuel s (EndOfStepFrame.refl s)

theorem State.kept_runArbiter (s : State) : EndOfStepFrame s s.runArbiter := State.kept_grantPlaces _ s

/-- Sixty-four grants fill the queue, so no place is left to grant (R145). -/
theorem State.grantPlaces_done (fuel : Nat) : ∀ s : State, Config.linkQueue ≤ s.ports.link.queue.length + fuel →
    (s.grantPlaces fuel).grantPlace = none := by
  induction fuel with
  | zero =>
    intro s h
    refine State.grantPlace_eq_none.mpr (fun hr => ?_)
    simp only [State.linkHasRoom, Bool.and_eq_true, decide_eq_true_eq] at hr
    have h2 := hr.2
    simp only [State.grantPlaces] at h2
    omega
  | succ n ih =>
    intro s h
    unfold State.grantPlaces
    split
    · rename_i t ht
      obtain ⟨m, hq, _⟩ := State.grantPlace_queue ht
      apply ih
      rw [hq]
      simp
      omega
    · assumption

theorem State.runArbiter_done (s : State) : s.runArbiter.grantPlace = none :=
  State.grantPlaces_done _ s (by simp [Config.linkQueue])

theorem State.grantRun_grantPlaces (fuel : Nat) :
    ∀ s : State, Config.linkQueue ≤ s.ports.link.queue.length + fuel → GrantRun s (s.grantPlaces fuel) := by
  induction fuel with
  | zero =>
    intro s h
    exact .done (State.grantPlaces_done 0 s h)
  | succ n ih =>
    intro s h
    unfold State.grantPlaces
    split
    · rename_i t ht
      obtain ⟨m, hq, _⟩ := State.grantPlace_queue ht
      refine .place ht (ih t ?_)
      rw [hq]
      simp
      omega
    · rename_i hn; exact .done hn

/-- The arbiter grants places until none can be granted (R145). -/
theorem State.grantRun_runArbiter (s : State) : GrantRun s s.runArbiter :=
  State.grantRun_grantPlaces _ s (by simp [Config.linkQueue])

/-- Grants until none can be granted come to one state only. -/
theorem GrantRun.unique {s t u : State} (h : GrantRun s t) (g : GrantRun s u) : t = u := by
  induction h with
  | done hn =>
    cases g with
    | done _ => rfl
    | place hs _ => rw [hn] at hs; cases hs
  | place hs _ ih =>
    cases g with
    | done hn => rw [hn] at hs; cases hs
    | place hs' hr =>
      rw [hs] at hs'
      injection hs' with e
      subst e
      exact ih hr

theorem GrantRun.eq_runArbiter {s t : State} (h : GrantRun s t) : t = s.runArbiter := h.unique (State.grantRun_runArbiter s)

/-- Grants leave the sweep unit alone. -/
theorem State.grantPlace_sweep {s t : State} (h : s.grantPlace = some t) : t.sweep = s.sweep := by
  obtain ⟨_, h1 | h1 | h1 | h1 | h1⟩ := State.grantPlace_cases h
  · obtain ⟨_, rfl⟩ := h1; rfl
  · obtain ⟨_, e, rest, _, rfl⟩ := h1; rfl
  · obtain ⟨_, _, tg, rest, _, rfl⟩ := h1; rfl
  · obtain ⟨_, _, _, k, tg, _, rfl⟩ := h1; rfl
  · obtain ⟨_, _, _, _, k, i, r, _, rfl⟩ := h1; rfl

/-- Grants leave the channel ports alone. -/
theorem State.grantPlace_channels {s t : State} (h : s.grantPlace = some t) : t.ports.channels = s.ports.channels := by
  obtain ⟨_, h1 | h1 | h1 | h1 | h1⟩ := State.grantPlace_cases h
  · obtain ⟨_, rfl⟩ := h1; rfl
  · obtain ⟨_, e, rest, _, rfl⟩ := h1; rfl
  · obtain ⟨_, _, tg, rest, _, rfl⟩ := h1; rfl
  · obtain ⟨_, _, _, k, tg, _, rfl⟩ := h1; rfl
  · obtain ⟨_, _, _, _, k, i, r, _, rfl⟩ := h1; rfl

@[simp] theorem State.runArbiter_sweep (s : State) : s.runArbiter.sweep = s.sweep :=
  State.grantPlaces_induction (P := fun t => t.sweep = s.sweep) (fun _ _ h k => (State.grantPlace_sweep h).trans k) _ s rfl

@[simp] theorem State.runArbiter_channels (s : State) : s.runArbiter.ports.channels = s.ports.channels :=
  State.grantPlaces_induction (P := fun t => t.ports.channels = s.ports.channels)
    (fun _ _ h k => (State.grantPlace_channels h).trans k) _ s rfl

/-! ## Attention lines -/

theorem State.refreshLines_idem (s : State) : s.refreshLines.refreshLines = s.refreshLines := by
  unfold State.refreshLines State.selected
  congr 1
  simp only [PortUnit.mk.injEq, true_and, and_true]
  ext i hi
  simp [ChannelPort.withLine]

/-- The lines stand as R175 and R176 have them. -/
theorem State.refreshLines_eq_iff {s : State} : s.refreshLines = s ↔
    s.ports.maintenance.attention = !s.ports.maintenance.alarms.isEmpty
      ∧ s.ports.link.attention = linkCondition s.ports.link.queue s.ports.threshold s.selected.flushTime
      ∧ ∀ c : Fin 4, s.ports.channels[c].attention = !s.ports.channels[c].queue.isEmpty := by
  constructor
  · intro h
    refine ⟨?_, ?_, fun c => ?_⟩
    · conv_lhs => rw [← h]
      rfl
    · conv_lhs => rw [← h]
      rfl
    · conv_lhs => rw [← h]
      simp [State.refreshLines, ChannelPort.withLine]
  · rintro ⟨h1, h2, h3⟩
    have h4 : s.ports.channels.map ChannelPort.withLine = s.ports.channels := by
      ext1 i hi
      have := h3 ⟨i, hi⟩
      simp only [Vector.getElem_map, ChannelPort.withLine]
      simp only [Fin.getElem_fin] at this
      rw [← this]
    unfold State.refreshLines
    rw [h4, ← h1, ← h2]

theorem State.kept_refreshLines (s : State) : EndOfStepFrame s s.refreshLines where
  pending := rfl
  resetPinLow := rfl
  scoring := rfl
  neighbours := rfl
  profiles := rfl
  protection := rfl
  chains := rfl
  age := rfl
  free := rfl
  reserve := rfl
  alarms := rfl
  isOpen := rfl
  allowance := rfl
  threshold := rfl
  channelState c := by simp [State.refreshLines, ChannelPort.withLine]
  channelQueue c := by simp [State.refreshLines, ChannelPort.withLine]
  outbound p := by cases p <;> simp [State.outbound, State.refreshLines, ChannelPort.withLine]
  sweepTimer := rfl
  posted := ⟨[], by simp [State.refreshLines]⟩
  vacant _ h := h
  record _ r h := ⟨r, h, r.keptBy_refl⟩
  sweep _ := ⟨rfl, fun c => by simp [State.refreshLines, ChannelPort.withLine]⟩
  refreshOwed h := h
  bystander _ r h _ := ⟨r, h, rfl⟩
  unclaimed _ r h _ := ⟨r, h, rfl⟩
  queues _ := List.Sublist.refl _
  slots _ _ _ := rfl
  claims := List.suffix_rfl
  owedLeaves := List.suffix_rfl
  leaving := rfl
  places _ := rfl
  noRoom _ := ⟨rfl, rfl, rfl, rfl, rfl, rfl⟩

/-- Attention lines do not bear on grants. -/
theorem State.grantPlace_refreshLines_none {s : State} (h : s.grantPlace = none) : s.refreshLines.grantPlace = none :=
  State.grantPlace_eq_none.mpr (fun hr => (State.grantPlace_eq_none.mp h) hr)

/-! ## The end of a sweep -/

theorem State.checkSweep_eq_self {s : State} (h : ¬(s.sweep.inFlight = true ∧ s.sweep.unvisited = 0)) : s.checkSweep = s := by
  simp [State.checkSweep, h]

/-- The channel ports as a sweep start leaves them: the chatter counts 0 (R71). -/
theorem State.startSweep_channels (s : State) :
    s.startSweep.ports = { s.ports with channels := s.ports.channels.map (fun c => { c with chatter := 0 }) } := by
  unfold State.startSweep
  dsimp only
  split <;> rfl

/-- What the end of a sweep, and a start behind it, keep. -/
theorem EndOfStepFrame.of_sweep {s t : State} (dead : s.sweep.inFlight = true ∧ s.sweep.unvisited = 0)
    (h : t = { s with sweep := t.sweep, ports := { s.ports with channels := t.ports.channels } })
    (timer : t.sweep.timer = s.sweep.timer)
    (channels : ∀ c : Fin 4, t.ports.channels[c] = { s.ports.channels[c] with chatter := t.ports.channels[c].chatter }) :
    EndOfStepFrame s t := by
  have hp : t.ports = { s.ports with channels := t.ports.channels } := by rw [h]
  have hv : t.visitors = s.visitors := by rw [h]
  have hrec : ∀ i : Index, t.record? i = s.record? i := fun i => State.record?_congr (by rw [hv]) i
  have hh : t.handover = s.handover := by rw [h]
  have hi : t.interest = s.interest := by rw [h]
  have hc : t.claims = s.claims := by rw [h]
  exact {
    pending := by rw [h]
    resetPinLow := by rw [h]
    scoring := by rw [h]
    neighbours := by rw [h]
    profiles := by rw [h]
    protection := by rw [h]
    chains := by rw [hv]
    age := by rw [hv]
    free := by rw [hv]
    reserve := by rw [hv]
    alarms := by rw [hp]
    isOpen := by rw [hp]
    allowance := by rw [hp]
    threshold := by rw [hp]
    channelState := fun c => by rw [channels c]
    channelQueue := fun c => by rw [channels c]
    outbound := fun p => by
      cases p with
      | maintenance => unfold State.outbound; rw [hp]
      | link => unfold State.outbound; rw [hp]
      | channel c =>
        have := congrArg ChannelPort.outbound (channels c)
        exact this
    sweepTimer := timer
    sweep := fun hn => absurd dead hn
    posted := ⟨[], by rw [hp]; simp⟩
    refreshOwed := fun hr => by rw [hp]; exact hr
    vacant := fun i hi => (hrec i).trans hi
    record := fun i r hr => ⟨r, (hrec i).trans hr, r.keptBy_refl⟩
    bystander := fun i r hr _ => ⟨r, (hrec i).trans hr, rfl⟩
    unclaimed := fun i r hr _ => ⟨r, (hrec i).trans hr, rfl⟩
    queues := fun c => by rw [hh]
    slots := fun k x _ => by rw [hh]
    claims := by rw [hc]
    owedLeaves := by rw [hi]
    leaving := by rw [hi]
    places := fun k => by rw [hi]
    noRoom := fun _ => ⟨hv, hc, hh, hi, by rw [hp], by rw [hp]⟩ }

theorem State.kept_checkSweep (s : State) : EndOfStepFrame s s.checkSweep := by
  unfold State.checkSweep
  split
  · rename_i dead
    dsimp only
    split
    · have hp := State.startSweep_channels ({ s.endSweep with sweep := { s.endSweep.sweep with due := false } })
      refine EndOfStepFrame.of_sweep dead ?_ ?_ (fun c => ?_)
      · rw [hp]
        unfold State.startSweep
        dsimp only
        split <;> rfl
      · unfold State.startSweep
        dsimp only
        split <;> rfl
      · rw [hp]
        simp [State.endSweep]
    · exact EndOfStepFrame.of_sweep dead rfl rfl (fun _ => rfl)
  · exact EndOfStepFrame.refl s

/-- A sweep with nothing left to visit has ended when the step ends (R75). -/
theorem State.startSweep_alive (s : State) : ¬(s.startSweep.sweep.inFlight = true ∧ s.startSweep.sweep.unvisited = 0) := by
  unfold State.startSweep
  dsimp only
  split
  · simp [State.endSweep]
  · rename_i h; simpa using h

theorem State.checkSweep_alive (s : State) : ¬(s.checkSweep.sweep.inFlight = true ∧ s.checkSweep.sweep.unvisited = 0) := by
  unfold State.checkSweep
  split
  · dsimp only
    split
    · exact State.startSweep_alive _
    · simp [State.endSweep]
  · assumption

/-! ## The end of a step -/

/-- What the end of a step does and keeps. -/
theorem State.kept_settle (s : State) : UpToGrants s s.settle where
  toEndOfStepFrame := (s.kept_checkSweep.trans (State.kept_runArbiter _)).trans (State.kept_refreshLines _)
  reached := ⟨_, State.grantRun_runArbiter _, rfl⟩

/-- The end of a step leaves one state only. -/
theorem UpToGrants.eq_settle {s t : State} (h : UpToGrants s t) : t = s.settle := by
  obtain ⟨u, hu, rfl⟩ := h.reached
  rw [hu.eq_runArbiter]
  rfl

/-- Every state that a step has settled is settled. -/
theorem State.settled_settle (s : State) : Settled s.settle where
  sweep := by
    have h : s.settle.sweep = s.checkSweep.sweep := by simp [State.settle]
    rw [h]
    exact s.checkSweep_alive
  arbiter := State.grantPlace_refreshLines_none (State.runArbiter_done _)
  lines := State.refreshLines_idem _

/-- A settled state is left as it is. -/
theorem Settled.settle_eq {s : State} (h : Settled s) : s.settle = s := by
  unfold State.settle
  rw [State.checkSweep_eq_self h.sweep]
  unfold State.runArbiter
  rw [State.grantPlaces_eq_self h.arbiter, h.lines]

/-- A sweep in flight with records to visit, or none in flight, is not touched by the end of a step. -/
theorem State.settle_sweep {s : State} (h : ¬(s.sweep.inFlight = true ∧ s.sweep.unvisited = 0)) : s.settle.sweep = s.sweep := by
  simp [State.settle, State.checkSweep_eq_self h]

/-- The record at an index after the end of a step keeps all that grants keep. -/
theorem State.settle_record {s : State} {i : Index} {r : Record} (h : s.record? i = some r) :
    ∃ q, s.settle.record? i = some q ∧ r.keptBy q := s.kept_settle.record i r h

/-- A change that touches nothing the arbiter reads leaves nothing to grant. -/
theorem Settled.grantPlace_same {s t : State} (h : Settled s)
    (link : t.ports.link.queue = s.ports.link.queue ∧ t.ports.link.isOpen = s.ports.link.isOpen
      ∧ t.ports.link.refreshOwed = s.ports.link.refreshOwed)
    (claims : t.claims = s.claims) (interest : t.interest = s.interest) (handover : t.handover = s.handover)
    (occupied : ∀ i : Index, (t.record? i).isSome = (s.record? i).isSome) : t.grantPlace = none := by
  have hn := State.grantPlace_eq_none.mp h.arbiter
  apply State.grantPlace_eq_none.mpr
  intro hr
  have hroom : s.linkHasRoom = true := by simpa [State.linkHasRoom, link.1, link.2.1] using hr
  obtain ⟨h1, h2, h3, h4, h5⟩ := hn hroom
  refine ⟨by rw [link.2.2]; exact h1, by rw [claims]; exact h2, by rw [interest]; exact h3, by rw [interest]; exact h4, ?_⟩
  unfold State.nextGrant? at h5 ⊢
  rw [handover]
  cases hs : s.handover.freeSlot? with
  | none => rfl
  | some k =>
    rw [hs] at h5
    simp only [Option.bind_some] at h5 ⊢
    cases hq : s.handover.nextQueued? with
    | none => rfl
    | some i =>
      rw [hq] at h5
      simp only [Option.bind_some, Option.map_eq_none_iff] at h5 ⊢
      have ho := occupied i
      rw [h5] at ho
      simpa using ho

/-- The end of a step that changed nothing the arbiter or the sweep reads recomputes the attention lines and nothing else. -/
theorem Settled.settle_same {s t : State} (h : Settled s)
    (sweep : t.sweep.inFlight = s.sweep.inFlight ∧ t.sweep.unvisited = s.sweep.unvisited)
    (link : t.ports.link.queue = s.ports.link.queue ∧ t.ports.link.isOpen = s.ports.link.isOpen
      ∧ t.ports.link.refreshOwed = s.ports.link.refreshOwed)
    (claims : t.claims = s.claims) (interest : t.interest = s.interest) (handover : t.handover = s.handover)
    (occupied : ∀ i : Index, (t.record? i).isSome = (s.record? i).isSome) : t.settle = t.refreshLines := by
  unfold State.settle
  rw [State.checkSweep_eq_self (by rw [sweep.1, sweep.2]; exact h.sweep)]
  unfold State.runArbiter
  rw [State.grantPlaces_eq_self (h.grantPlace_same link claims interest handover occupied)]

/-- What makes a changed state settled: nothing that the arbiter, the sweep or the lines read has changed. -/
theorem Settled.of_same {s t : State} (h : Settled s)
    (sweep : t.sweep.inFlight = s.sweep.inFlight ∧ t.sweep.unvisited = s.sweep.unvisited)
    (link : t.ports.link.queue = s.ports.link.queue ∧ t.ports.link.isOpen = s.ports.link.isOpen
      ∧ t.ports.link.refreshOwed = s.ports.link.refreshOwed)
    (claims : t.claims = s.claims) (interest : t.interest = s.interest) (handover : t.handover = s.handover)
    (occupied : ∀ i : Index, (t.record? i).isSome = (s.record? i).isSome)
    (lines : t.refreshLines = t) : Settled t where
  sweep := by rw [sweep.1, sweep.2]; exact h.sweep
  arbiter := h.grantPlace_same link claims interest handover occupied
  lines := lines

end Sys2Proof.Machine
end

