-- ==== Sys2Proof/Laws/Checks.lean ====
section
/-! SUPPORT. What a request is as one step (09 R168): the request that passes its checks, the request that is refused, and the
event of the engine. -/

namespace Sys2Proof.Machine

theorem State.chatterTest_uncounted {s : State} {k : Kind} {p : Port} (h : kindCounted k = false) : s.chatterTest k p = (s, true) := by
  simp [State.chatterTest, h]

theorem State.chatterTest_counted {s : State} {k : Kind} {c : Fin 4} (hk : kindCounted k = true)
    (h : s.ports.channels[c].chatter < s.ports.allowance) : s.chatterTest k (.channel c) = (s.chattered c, true) := by
  have h' : s.ports.channels[c.val].chatter < s.ports.allowance := h
  simp [State.chatterTest, hk, State.countChatter, h', State.chattered]

@[simp] theorem State.portState_chattered (s : State) (c : Fin 4) (p : Port) : (s.chattered c).portState p = s.portState p := by
  cases p with
  | maintenance => rfl
  | link => rfl
  | channel d =>
    by_cases h : c.val = d.val
    · simp [State.chattered, State.portState, State.modifyChannel, h]
    · simp [State.chattered, State.portState, State.modifyChannel, h]

@[simp] theorem State.kindLocked_chattered (s : State) (c : Fin 4) (k : Kind) : (s.chattered c).kindLocked k = s.kindLocked k := by
  cases k <;> rfl

@[simp] theorem State.record?_chattered (s : State) (c : Fin 4) (i : Index) : (s.chattered c).record? i = s.record? i := rfl

@[simp] theorem State.find_chattered (s : State) (c : Fin 4) (unit : Nat) : (s.chattered c).find unit = s.find unit := rfl

@[simp] theorem State.outbound_chattered (s : State) (c : Fin 4) (p : Port) : (s.chattered c).outbound p = s.outbound p := by
  cases p with
  | maintenance => rfl
  | link => rfl
  | channel d =>
    by_cases h : c.val = d.val
    · simp [State.chattered, State.outbound, State.modifyChannel, h]
    · simp [State.chattered, State.outbound, State.modifyChannel, h]

theorem kindAdmitted_iff (k : Kind) (p : Port) : kindAdmitted k p = true ↔ k ∈ admittedKinds p := by
  cases p <;> cases k <;> simp [kindAdmitted, admittedKinds]

theorem kindCounted_iff (k : Kind) : kindCounted k = true ↔ k ∈ countedKinds := by
  cases k <;> simp [kindCounted, countedKinds]

theorem portRefusal_eq_none (k : Kind) (st : PortState) : portRefusal k st = none ↔
    (st = .closed → k = .openPort ∨ k = .closePort) ∧ (st = .muted → k = .fetch ∨ k = .closePort) := by
  cases st <;> cases k <;> simp [portRefusal]

theorem Passes.unlocked {s : State} {k : Kind} {p : Port} (h : Passes s k p) : s.kindLocked k = false := by
  cases k with
  | loadLevelTable => exact h.tables (Or.inl rfl)
  | loadErrorTable => exact h.tables (Or.inr rfl)
  | setProfileField => exact h.profiles rfl
  | setNeighbour => exact h.neighbours rfl
  | setLimits => exact h.limits rfl
  | _ => rfl

theorem Passes.port {s : State} {k : Kind} {p : Port} (h : Passes s k p) : portRefusal k (s.portState p) = none :=
  (portRefusal_eq_none k _).mpr ⟨h.closed, h.muted⟩

theorem Passes.admitted {s : State} {k : Kind} {p : Port} (h : Passes s k p) : kindAdmitted k p = true :=
  (kindAdmitted_iff k p).mpr h.role

theorem Passes.below {s : State} {k : Kind} {c : Fin 4} (h : Passes s k (.channel c)) (hk : kindCounted k = true) :
    s.ports.channels[c].chatter < s.ports.allowance := h.chatter c rfl ((kindCounted_iff k).mp hk)

theorem Passes.early {s : State} {k : Kind} {p : Port} (h : Passes s k p) : s.earlyRefusal k p true = none := by
  simp [State.earlyRefusal, h.line, h.admitted, h.port]

theorem Passes.late {s : State} {k : Kind} {p : Port} (h : Passes s k p) : s.lateRefusal k p false true = none := by
  have hr := h.ready
  by_cases h1 : k = .openPort
  · by_cases h2 : s.portState p = .closed
    · simp [State.lateRefusal, h.unlocked, hr h1 h2]
    · simp [State.lateRefusal, h.unlocked, h2]
  · simp [State.lateRefusal, h.unlocked, h1]

/-- A request that is not counted and passes its checks is served on the state as it stands (R168). -/
theorem request_passes {s : State} {k : Kind} {p : Port} {own : State → Served} (h : Passes s k p) (hk : kindCounted k = false) :
    request k p true false true own s = .next ((own s).finish k.code p) := by
  simp [request, h.pin, State.checked, h.early, State.chatterTest_uncounted hk, h.late]

/-- A counted request that passes its checks is served on the state with the chatter count raised (R168, R169). -/
theorem request_passes_counted {s : State} {k : Kind} {c : Fin 4} {own : State → Served} (h : Passes s k (.channel c))
    (hk : kindCounted k = true) :
    request k (.channel c) true false true own s = .next ((own (s.chattered c)).finish k.code (.channel c)) := by
  have hc := h.below hk
  have hl : (s.chattered c).lateRefusal k (.channel c) false true = none := by
    have := h.late
    have hp : (s.chattered c).protection = s.protection := rfl
    unfold State.lateRefusal at this ⊢
    rw [hp]
    simpa using this
  simp [request, h.pin, State.checked, h.early, State.chatterTest_counted hk hc, hl]

/-- A request out of range that passes steps 1 to 6 is refused RANGE (R168). -/
theorem request_out_of_range {s : State} {k : Kind} {p : Port} {own : State → Served} (h : Passes s k p) (hk : kindCounted k = false) :
    request k p true false false own s = .next ((s.refuse .range).finish k.code p) := by
  have hl : s.lateRefusal k p false false = some .range := by
    have := h.late
    unfold State.lateRefusal at this ⊢
    split at this
    · simp at this
    · rename_i h1
      rw [if_neg h1]
      split at this
      · simp at this
      · rename_i h2
        simp [h2]
  simp [request, h.pin, State.checked, h.early, State.chatterTest_uncounted hk, hl]

theorem request_out_of_range_counted {s : State} {k : Kind} {c : Fin 4} {own : State → Served} (h : Passes s k (.channel c))
    (hk : kindCounted k = true) :
    request k (.channel c) true false false own s = .next (((s.chattered c).refuse .range).finish k.code (.channel c)) := by
  have hc := h.below hk
  have hl : (s.chattered c).lateRefusal k (.channel c) false false = some .range := by
    have := h.late
    unfold State.lateRefusal at this ⊢
    simp only [State.portState_chattered, State.kindLocked_chattered] at *
    have hp : (s.chattered c).protection = s.protection := rfl
    rw [hp]
    split at this
    · simp at this
    · rename_i h1
      rw [if_neg h1]
      split at this
      · simp at this
      · rename_i h2
        simp [h2]
  simp [request, h.pin, State.checked, h.early, State.chatterTest_counted hk hc, hl]

/-- A request refused at steps 1 to 3 changes nothing but the outbound line of its port (R167, R168). -/
theorem request_refused_early {s : State} {k : Kind} {p : Port} {sized locked inRange : Bool} {own : State → Served} {r : Reason}
    (hs : Settled s) (pin : s.resetPinLow = false) (h : s.earlyRefusal k p sized = some r) :
    request k p sized locked inRange own s = .next (s.confirm p ⟨k.code, .refused r⟩) := by
  simp [request, pin, State.checked, h, Served.finish, State.refuse, hs.settle_eq]

theorem request_pinLow {s : State} {k : Kind} {p : Port} {sized locked inRange : Bool} {own : State → Served}
    (pin : s.resetPinLow = true) : request k p sized locked inRange own s = .next s := by
  simp [request, pin]

/-- A request always ends in a next state. -/
theorem request_next (k : Kind) (p : Port) (sized locked inRange : Bool) (own : State → Served) (s : State) :
    ∃ t, request k p sized locked inRange own s = .next t := by
  unfold request
  split
  · exact ⟨_, rfl⟩
  · exact ⟨_, rfl⟩

/-- A served request settles and then confirms (R160). -/
theorem Served.finish_of_settled {r : Served} {kind : Nat} {p : Port} (h : Settled r.1) :
    Served.finish r kind p = r.1.confirm p ⟨kind, r.2 r.1⟩ := by
  simp [Served.finish, h.settle_eq]

/-- A confirmation leaves a settled state settled. -/
theorem Settled.confirm {s : State} (h : Settled s) (p : Port) (c : Confirmation) : Settled (s.confirm p c) := by
  obtain ⟨h1, h2, h3⟩ := State.refreshLines_eq_iff.mp h.lines
  refine Settled.of_same h (by simp) ?_ (by simp) (by simp) (by simp) (by simp) (State.refreshLines_eq_iff.mpr ?_)
  · cases p <;> exact ⟨rfl, rfl, rfl⟩
  · cases p with
    | maintenance => exact ⟨h1, h2, h3⟩
    | link => exact ⟨h1, h2, h3⟩
    | channel c =>
      refine ⟨h1, h2, fun d => ?_⟩
      have hd := h3 d
      by_cases hc : c.val = d.val
      · simp_all [State.confirm, State.setOutbound, State.modifyChannel]
      · simp_all [State.confirm, State.setOutbound, State.modifyChannel]

/-- An event of the engine is its effect and the end of the step. -/
theorem event_eq {s : State} {f : State → State} (pin : s.resetPinLow = false) : event f s = .next (f s).settle := by
  simp [event, pin]

end Sys2Proof.Machine
end

