-- ==== Sys2Proof/Laws/Operations.lean ====
section
/-! SUPPORT. One lemma for each shared operation: what a served request and an event leave, what a lookup finds, what allocation, a
failure, an offer and a MOVE attempt do. -/

namespace Sys2Proof.Machine

/-! ## Confirmations touch one outbound line -/

@[simp] theorem State.setOutbound_maintenance_alarms (s : State) (l : List Confirmation) (p : Port) :
    (s.setOutbound l p).ports.maintenance.alarms = s.ports.maintenance.alarms := by cases p <;> rfl

@[simp] theorem State.setOutbound_link_isOpen (s : State) (l : List Confirmation) (p : Port) :
    (s.setOutbound l p).ports.link.isOpen = s.ports.link.isOpen := by cases p <;> rfl

@[simp] theorem State.setOutbound_link_queue (s : State) (l : List Confirmation) (p : Port) :
    (s.setOutbound l p).ports.link.queue = s.ports.link.queue := by cases p <;> rfl

@[simp] theorem State.setOutbound_link_refreshOwed (s : State) (l : List Confirmation) (p : Port) :
    (s.setOutbound l p).ports.link.refreshOwed = s.ports.link.refreshOwed := by cases p <;> rfl

@[simp] theorem State.setOutbound_allowance (s : State) (l : List Confirmation) (p : Port) :
    (s.setOutbound l p).ports.allowance = s.ports.allowance := by cases p <;> rfl

@[simp] theorem State.setOutbound_threshold (s : State) (l : List Confirmation) (p : Port) :
    (s.setOutbound l p).ports.threshold = s.ports.threshold := by cases p <;> rfl

/-- Of a channel port, a confirmation touches the outbound line only. -/
theorem State.setOutbound_channel (s : State) (l : List Confirmation) (p : Port) (d : Fin 4) :
    (s.setOutbound l p).ports.channels[d] = { s.ports.channels[d] with outbound := (s.setOutbound l p).ports.channels[d].outbound } := by
  cases p with
  | maintenance => rfl
  | link => rfl
  | channel c =>
    by_cases h : c.val = d.val
    · simp [State.setOutbound, State.modifyChannel, h]
    · simp [State.setOutbound, State.modifyChannel, h]

theorem State.setOutbound_channel_state (s : State) (l : List Confirmation) (p : Port) (d : Fin 4) :
    (s.setOutbound l p).ports.channels[d].state = s.ports.channels[d].state := by rw [State.setOutbound_channel]

theorem State.setOutbound_channel_queue (s : State) (l : List Confirmation) (p : Port) (d : Fin 4) :
    (s.setOutbound l p).ports.channels[d].queue = s.ports.channels[d].queue := by rw [State.setOutbound_channel]

theorem State.setOutbound_channel_chatter (s : State) (l : List Confirmation) (p : Port) (d : Fin 4) :
    (s.setOutbound l p).ports.channels[d].chatter = s.ports.channels[d].chatter := by rw [State.setOutbound_channel]

theorem State.outbound_setOutbound_ne (s : State) (l : List Confirmation) {p q : Port} (h : q ≠ p) :
    (s.setOutbound l p).outbound q = s.outbound q := by
  cases p with
  | maintenance => cases q with
    | maintenance => exact absurd rfl h
    | link => rfl
    | channel d => rfl
  | link => cases q with
    | maintenance => rfl
    | link => exact absurd rfl h
    | channel d => rfl
  | channel c => cases q with
    | maintenance => rfl
    | link => rfl
    | channel d =>
      have hd : ¬ c.val = d.val := fun e => h (by rw [Fin.ext e])
      simp [State.setOutbound, State.outbound, State.modifyChannel, hd]

/-- What the end of a step leaves alone, it leaves alone behind a confirmation too. -/
theorem EndOfStepFrame.confirm {a b : State} (h : EndOfStepFrame a b) (p : Port) (c : Confirmation) :
    EndOfStepFrame (a.confirm p c) (b.confirm p c) where
  pending := by simp [h.pending]
  resetPinLow := by simp [h.resetPinLow]
  scoring := by simp [h.scoring]
  neighbours := by simp [h.neighbours]
  profiles := by simp [h.profiles]
  protection := by simp [h.protection]
  chains := by simp [h.chains]
  age := by simp [h.age]
  free := by simp [h.free]
  reserve := by simp [h.reserve]
  alarms := by simp [State.confirm, h.alarms]
  isOpen := by simp [State.confirm, h.isOpen]
  allowance := by simp [State.confirm, h.allowance]
  threshold := by simp [State.confirm, h.threshold]
  channelState d := by
    unfold State.confirm
    rw [State.setOutbound_channel_state, State.setOutbound_channel_state]
    exact h.channelState d
  channelQueue d := by
    unfold State.confirm
    rw [State.setOutbound_channel_queue, State.setOutbound_channel_queue]
    exact h.channelQueue d
  outbound q := by
    by_cases hq : q = p
    · subst hq; simp [h.outbound q]
    · unfold State.confirm
      rw [State.outbound_setOutbound_ne _ _ hq, State.outbound_setOutbound_ne _ _ hq]
      exact h.outbound q
  sweepTimer := by simp [h.sweepTimer]
  sweep hn := by
    simp only [State.confirm_sweep] at hn ⊢
    obtain ⟨h1, h2⟩ := h.sweep hn
    refine ⟨h1, fun d => ?_⟩
    unfold State.confirm
    rw [State.setOutbound_channel_chatter, State.setOutbound_channel_chatter]
    exact h2 d
  posted := by
    obtain ⟨l, hl⟩ := h.posted
    exact ⟨l, by simp [State.confirm, hl]⟩
  refreshOwed hr := by
    simp only [State.confirm, State.setOutbound_link_refreshOwed] at hr ⊢
    exact h.refreshOwed hr
  vacant i hi := by
    simp only [State.record?_confirm] at hi ⊢
    exact h.vacant i hi
  record i r hr := by
    simp only [State.record?_confirm] at hr ⊢
    exact h.record i r hr
  bystander i r hr hn := by
    simp only [State.record?_confirm, State.confirm_handover] at hr hn ⊢
    exact h.bystander i r hr hn
  unclaimed i r hr hn := by
    simp only [State.record?_confirm, State.confirm_claims] at hr hn ⊢
    exact h.unclaimed i r hr hn
  queues d := by simpa using h.queues d
  slots k x hx := by
    simp only [State.confirm_handover] at hx ⊢
    exact h.slots k x hx
  claims := by simpa using h.claims
  owedLeaves := by simpa using h.owedLeaves
  leaving := by simp [h.leaving]
  places k := by
    simp only [State.confirm_interest]
    exact h.places k
  noRoom hr := by
    have hr' : a.linkHasRoom = false := by simpa [State.linkHasRoom, State.confirm] using hr
    obtain ⟨h1, h2, h3, h4, h5, h6⟩ := h.noRoom hr'
    exact ⟨by simp [h1], by simp [h2], by simp [h3], by simp [h4], by simp [State.confirm, h5], by simp [State.confirm, h6]⟩

/-- A confirmation and a change of the channel ports that leaves outbound lines alone come to the same in either order. -/
theorem map_channels_setOutbound (s : State) (g : ChannelPort → ChannelPort) (c : Fin 4) (l : List Confirmation)
    (hg : ∀ p : ChannelPort, g { p with outbound := l } = { g p with outbound := l }) :
    (s.ports.channels.set c { s.ports.channels[c] with outbound := l }).map g =
      (s.ports.channels.map g).set c { (s.ports.channels.map g)[c] with outbound := l } := by
  ext1 i hi
  simp only [Vector.getElem_map, Vector.getElem_set, Fin.getElem_fin]
  split
  · rw [hg]
  · rfl

theorem State.refreshLines_confirm (s : State) (p : Port) (c : Confirmation) :
    (s.confirm p c).refreshLines = s.refreshLines.confirm p c := by
  cases p with
  | maintenance => rfl
  | link => rfl
  | channel d =>
    have h := map_channels_setOutbound s ChannelPort.withLine d (s.outbound (.channel d) ++ [c]) (fun _ => rfl)
    have ho : s.refreshLines.outbound (.channel d) = s.outbound (.channel d) := (State.kept_refreshLines s).outbound _
    unfold State.confirm
    rw [ho]
    simp only [State.setOutbound, State.modifyChannel, State.refreshLines]
    rw [h]
    rfl

theorem State.startSweep_confirm (s : State) (p : Port) (c : Confirmation) :
    (s.confirm p c).startSweep = s.startSweep.confirm p c := by
  cases p with
  | maintenance => unfold State.startSweep; dsimp only; simp only [State.confirm_visitors]; split <;> rfl
  | link => unfold State.startSweep; dsimp only; simp only [State.confirm_visitors]; split <;> rfl
  | channel d =>
    have h := map_channels_setOutbound s (fun q => { q with chatter := 0 }) d (s.outbound (.channel d) ++ [c]) (fun _ => rfl)
    have hs : s.startSweep.outbound (.channel d) = s.outbound (.channel d) := by
      unfold State.outbound
      dsimp only
      rw [State.startSweep_channels]
      simp
    unfold State.confirm
    rw [hs]
    unfold State.startSweep
    simp only [State.setOutbound, State.modifyChannel]
    rw [h]
    by_cases hn : s.visitors.age.length = 0
    · simp only [hn, if_true]; rfl
    · simp only [hn, if_false]; rfl

theorem State.checkSweep_confirm (s : State) (p : Port) (c : Confirmation) :
    (s.confirm p c).checkSweep = s.checkSweep.confirm p c := by
  have he : (s.confirm p c).endSweep = s.endSweep.confirm p c := by cases p <;> rfl
  unfold State.checkSweep
  simp only [State.confirm_sweep, he]
  split
  · split
    · rw [← State.startSweep_confirm]
      congr 1
      cases p <;> rfl
    · rfl
  · rfl

/-- A confirmation does not bear on a grant, nor a grant on a confirmation. -/
theorem State.grantPlace_confirm (s : State) (p : Port) (c : Confirmation) :
    (s.confirm p c).grantPlace = s.grantPlace.map (fun t => t.confirm p c) := by
  have hr : (s.confirm p c).linkHasRoom = s.linkHasRoom := by simp [State.linkHasRoom, State.confirm]
  have hg : (s.confirm p c).nextGrant? = s.nextGrant? := by
    unfold State.nextGrant?
    simp
  unfold State.grantPlace
  rw [hr, hg]
  simp only [State.confirm_claims, State.confirm_interest]
  have ho : (s.confirm p c).ports.link.refreshOwed = s.ports.link.refreshOwed := by simp [State.confirm]
  rw [ho]
  split
  · split
    · cases p <;> rfl
    · split
      · cases p <;> rfl
      · split
        · cases p <;> rfl
        · split
          · cases p <;> rfl
          · split
            · cases p <;> rfl
            · rfl
  · rfl

theorem GrantRun.confirm {a b : State} (h : GrantRun a b) (p : Port) (c : Confirmation) :
    GrantRun (a.confirm p c) (b.confirm p c) := by
  induction h with
  | done hn => exact .done (by rw [State.grantPlace_confirm, hn]; rfl)
  | place hs _ ih => exact .place (by rw [State.grantPlace_confirm, hs]; rfl) ih

/-- What the end of a step leaves, it leaves behind a confirmation too. -/
theorem UpToGrants.confirm {a b : State} (h : UpToGrants a b) (p : Port) (c : Confirmation) :
    UpToGrants (a.confirm p c) (b.confirm p c) where
  toEndOfStepFrame := h.toEndOfStepFrame.confirm p c
  reached := by
    obtain ⟨u, hu, rfl⟩ := h.reached
    exact ⟨_, by rw [State.checkSweep_confirm]; exact hu.confirm p c, (State.refreshLines_confirm u p c).symm⟩

/-! ## A request that is served, and an event -/

/-- A served request leaves its service's state with one confirmation, up to what the end of the step grants. -/
theorem Served.finish_upToGrants (r : Served) (kind : Nat) (p : Port) :
    UpToGrants (r.1.confirm p ⟨kind, r.2 r.1.settle⟩) (Served.finish r kind p) :=
  (State.kept_settle r.1).confirm p _

/-- An uncounted request that passes its checks. -/
theorem request_served {s : State} {k : Kind} {p : Port} {own : State → Served} (h : Passes s k p) (hk : kindCounted k = false) :
    ∃ t, request k p true false true own s = .next t
      ∧ UpToGrants ((own s).1.confirm p ⟨k.code, (own s).2 (own s).1.settle⟩) t :=
  ⟨_, request_passes h hk, Served.finish_upToGrants _ _ _⟩

/-- A counted request that passes its checks. -/
theorem request_served_counted {s : State} {k : Kind} {c : Fin 4} {own : State → Served} (h : Passes s k (.channel c))
    (hk : kindCounted k = true) :
    ∃ t, request k (.channel c) true false true own s = .next t
      ∧ UpToGrants ((own (s.chattered c)).1.confirm (.channel c) ⟨k.code, (own (s.chattered c)).2 (own (s.chattered c)).1.settle⟩) t :=
  ⟨_, request_passes_counted h hk, Served.finish_upToGrants _ _ _⟩

/-- An event of the engine. -/
theorem event_served {s : State} {f : State → State} (pin : s.resetPinLow = false) :
    ∃ t, event f s = .next t ∧ UpToGrants (f s) t := ⟨_, event_eq pin, State.kept_settle _⟩

/-! ## Records -/

/-- A lookup finds an occupied record that holds the unit ID (R5, R6). -/
theorem State.find_eq_some {s : State} {unit : Nat} {i : Index} {r : Record} (h : s.find unit = some (i, r)) :
    s.record? i = some r ∧ r.unit = unit := by
  unfold State.find at h
  obtain ⟨j, hj, h⟩ := Option.bind_eq_some_iff.mp h
  obtain ⟨q, hq, h⟩ := Option.map_eq_some_iff.mp h
  simp only [Prod.mk.injEq] at h
  obtain ⟨rfl, rfl⟩ := h
  refine ⟨hq, ?_⟩
  have := List.find?_some hj
  have hr : s.visitors.records[j] = some q := hq
  rw [hr] at this
  simpa using this

/-- Allocation gives the head of the free list when it is open to the class, else the oldest LOST record, else nothing (R13, R14). -/
theorem State.allocate_cases (s : State) (unit : Nat) (cls : RadioClass) (seq : Nat) (state : RecordState) :
    (∃ i rest, s.visitors.free = i :: rest ∧ s.visitors.freeOpenTo cls = true ∧ s.allocate unit cls seq state = some
        ({ s with visitors := ({ s.visitors with free := rest } : VisitorTable).occupy i (
            Record.fresh unit cls seq state s.sweep.parity) }, i))
    ∨ (s.visitors.freeHead cls = none ∧ ∃ i, s.visitors.oldestLost = some i ∧ s.allocate unit cls seq state = some
        ({ s.detach i with visitors := (s.detach i).visitors.occupy i (Record.fresh unit cls seq state s.sweep.parity) }, i))
    ∨ (s.visitors.freeHead cls = none ∧ s.visitors.oldestLost = none ∧ s.allocate unit cls seq state = none) := by
  unfold State.allocate
  cases hf : s.visitors.freeHead cls with
  | some i =>
    left
    unfold VisitorTable.freeHead at hf
    split at hf
    · rename_i ho
      cases hl : s.visitors.free with
      | nil => rw [hl] at hf; simp at hf
      | cons j rest =>
        rw [hl] at hf
        simp only [List.head?_cons, Option.some.injEq] at hf
        subst hf
        exact ⟨j, rest, rfl, ho, rfl⟩
    · simp at hf
  | none =>
    right
    cases hl : s.visitors.oldestLost with
    | some i => left; exact ⟨rfl, i, rfl, rfl⟩
    | none => right; exact ⟨rfl, rfl, rfl⟩

/-! ## Transactions -/

/-- A failure leaves the slot FREE and the record ACTIVE (R108). -/
@[simp] theorem NeighbourEntry.afterFailure_eq (e : NeighbourEntry) (target : Nat) (cooldown : Option Nat) :
    e.afterFailure target cooldown = e.afterEnd target cooldown := rfl

/-- After a failure no entry is late (log entry 24). -/
theorem Record.afterFailure_noneLate (r : Record) (target : Nat) (cooldown : Option Nat) :
    (r.afterFailure target cooldown).noneLate := by
  intro e he
  obtain ⟨d, -, rfl⟩ := List.mem_map.mp he
  rfl

/-- The target of a record's transaction, read from its slot. -/
theorem State.targetOf?_eq_some {s : State} {r : Record} {site : Nat} :
    s.targetOf? r = some site ↔
      ∃ (k : Fin 8) (x : Transaction), r.slot = some k ∧ s.handover.slots[k].transaction = some x ∧ x.target = site := by
  simp only [State.targetOf?, Option.bind_eq_some_iff, Option.map_eq_some_iff]
  exact ⟨fun ⟨k, h, x, hx⟩ => ⟨k, x, h, hx⟩, fun ⟨k, x, h, hx⟩ => ⟨k, h, x, hx⟩⟩

theorem State.failTransaction_eq {s : State} {k : Fin 8} {x : Transaction} (h : s.handover.slots[k].transaction = some x)
    (cooldown : Bool) :
    s.failTransaction k cooldown = s.failed k x (if cooldown then some s.selected.refusalCooldown else none) := by
  unfold State.failTransaction
  rw [h]
  rfl

/-- A FREE slot has no transaction to fail. -/
theorem State.failTransaction_free {s : State} {k : Fin 8} (h : s.handover.slots[k].transaction = none) (cooldown : Bool) :
    s.failTransaction k cooldown = s := by
  unfold State.failTransaction
  rw [h]

/-- An offered notice is posted or dropped (R147). -/
theorem State.offer_eq (s : State) (n : LinkNotice) : s.offer n = (s.offered n, s.fateOfOffer) := by
  unfold State.offer State.offered State.fateOfOffer State.linkHasRoom
  by_cases h1 : s.ports.link.isOpen = true
  · by_cases h2 : s.ports.link.queue.length < 64
    · simp [h1, h2, State.postLink]
    · simp [h1, h2]
  · simp [h1]

/-- An offered notice touches the link queue only. -/
theorem State.offered_eq (s : State) (n : LinkNotice) :
    s.offered n = { s with ports := { s.ports with link := { s.ports.link with queue := (s.offered n).ports.link.queue } } } := by
  unfold State.offered
  split <;> rfl

/-- The CANCEL of a slot's transaction offered (R109). -/
theorem State.offerCancel_eq {s : State} {k : Fin 8} {x : Transaction} {r : Record} (h : s.handover.slots[k].transaction = some x)
    (hr : s.record? x.record = some r) :
    s.offerCancel k = (s.offered (.cancel r.unit s.protection.site x.target k s.handover.slots[k].generation), some s.fateOfOffer) := by
  unfold State.offerCancel
  rw [h]
  simp only [State.offer_eq, State.cancelNotice, hr, Option.map_some, Option.getD_some]

/-- A failure with a CANCEL (R108, R109). -/
theorem State.failWithCancel_eq {s : State} {k : Fin 8} {x : Transaction} {r : Record} (h : s.handover.slots[k].transaction = some x)
    (hr : s.record? x.record = some r) (cooldown : Bool) :
    s.failWithCancel k cooldown =
      ((s.offered (.cancel r.unit s.protection.site x.target k s.handover.slots[k].generation)).failed k x
        (if cooldown then some s.selected.refusalCooldown else none), some s.fateOfOffer) := by
  unfold State.failWithCancel
  rw [State.offerCancel_eq h hr]
  have hs : (s.offered (.cancel r.unit s.protection.site x.target k s.handover.slots[k].generation)).handover = s.handover := by
    rw [State.offered_eq]
  have hp : (s.offered (.cancel r.unit s.protection.site x.target k s.handover.slots[k].generation)).selected = s.selected := by
    rw [State.offered_eq]; rfl
  have h' : (s.offered (.cancel r.unit s.protection.site x.target k s.handover.slots[k].generation)).handover.slots[k].transaction
      = some x := by rw [hs]; exact h
  dsimp only
  rw [State.failTransaction_eq h', hp]

/-- The four cases of a MOVE attempt on a transaction in flight (R99). -/
theorem State.moveAttempt_cases {s : State} {k : Fin 8} {x : Transaction} {r : Record} {c : Fin 4}
    (h : s.handover.slots[k].transaction = some x) (hr : s.record? x.record = some r) (hc : r.serving = some c) :
    (s.ports.channels[c].state = .closed → s.moveAttempt k = s.abandon k)
    ∧ (s.ports.channels[c].state ≠ .closed → r.inCall = true → s.moveAttempt k = (s.hold k x .call, .held .call))
    ∧ (s.ports.channels[c].state ≠ .closed → r.inCall = false → 32 ≤ s.ports.channels[c].queue.length →
        s.moveAttempt k = (s.hold k x .room, .held .room))
    ∧ (s.ports.channels[c].state ≠ .closed → r.inCall = false → s.ports.channels[c].queue.length < 32 →
        s.moveAttempt k = (s.postMove k x r.unit c, .ordered)) := by
  unfold State.moveAttempt
  rw [h]
  simp only [hr, hc]
  refine ⟨fun h1 => by rw [if_pos h1], fun h1 h2 => by rw [if_neg h1, if_pos h2], fun h1 h2 h3 => ?_, fun h1 h2 h3 => ?_⟩
  · rw [if_neg h1, if_neg (by simp [h2]), if_pos h3]
  · rw [if_neg h1, if_neg (by simp [h2]), if_neg (Nat.not_le.mpr h3)]

/-- A MOVE attempt as R99 has it. -/
theorem State.moveAttempt_eq {s : State} {k : Fin 8} {x : Transaction} {r : Record} {c : Fin 4}
    (h : s.handover.slots[k].transaction = some x) (hr : s.record? x.record = some r) (hc : r.serving = some c) :
    (s.moveAttempt k).1 = s.attempted k x r c := by
  obtain ⟨h1, h2, h3, h4⟩ := State.moveAttempt_cases h hr hc
  unfold State.attempted
  dsimp only
  by_cases hp : s.ports.channels[c].state = .closed
  · rw [h1 hp, if_pos hp]
    unfold State.abandon
    rw [State.failWithCancel_eq h hr]
    rfl
  · rw [if_neg hp]
    by_cases hi : r.inCall = true
    · rw [h2 hp hi, if_pos hi]
      rfl
    · rw [if_neg hi]
      have hi' : r.inCall = false := by simpa using hi
      by_cases hq : 32 ≤ s.ports.channels[c].queue.length
      · rw [h3 hp hi' hq, if_pos hq]
        rfl
      · rw [h4 hp hi' (Nat.not_le.mp hq), if_neg hq]
        rfl

theorem State.attemptForRoom_eq (s : State) (c : Fin 4) (k : Fin 8) :
    s.attemptForRoom c k = if s.heldForRoom c k then (s.moveAttempt k).1 else s := by
  unfold State.attemptForRoom State.heldForRoom
  cases hx : s.handover.slots[k].transaction with
  | none => rfl
  | some x =>
    cases hr : s.record? x.record with
    | none => simp [hr]
    | some r =>
      simp only [Option.any_some, hr]
      by_cases hp : x.phase = .held .room
      · by_cases hc : r.serving = some c
        · rw [State.moveAttempt_eq hx hr hc]
          simp [hp, hc]
        · simp [hp, hc]
      · simp [hp]

/-- Room made on a channel port lets the slots HELD for ROOM make their MOVE attempts, lowest slot first (R103). -/
theorem State.roomMade_eq (s : State) (c : Fin 4) : s.roomMade c = s.attemptsForRoom c := by
  unfold State.roomMade State.attemptsForRoom
  simp only [State.attemptForRoom_eq]

/-- With no slot HELD for ROOM on a channel port, room made there lets nothing go. -/
theorem State.attemptsForRoom_none {s : State} {c : Fin 4} (h : ∀ k : Fin 8, s.heldForRoom c k = false) : s.attemptsForRoom c = s := by
  unfold State.attemptsForRoom
  generalize List.finRange 8 = l
  induction l with
  | nil => rfl
  | cons k rest ih =>
    rw [List.foldl_cons, State.attemptForRoom_eq, h k]
    exact ih

/-- A supersession as R110 has it. -/
theorem State.supersede_eq {s : State} {r : Record} {k : Fin 8} {x : Transaction} (hk : r.slot = some k)
    (h : s.handover.slots[k].transaction = some x) (hr : s.record? x.record = some r) :
    s.supersede r = (s.superseded r, some s.fateOfOffer) := by
  unfold State.supersede State.superseded
  rw [hk]
  dsimp only
  rw [h, State.failWithCancel_eq h hr]
  rfl

/-! ## The interest map -/

/-- The place that holds a talkgroup: the lowest one (R118). -/
theorem InterestMap.place?_eq_some {m : InterestMap} {tg : Nat} {k : Place} :
    m.place? tg = some k ↔ (∃ e, m.places[k] = some e ∧ e.talkgroup = tg)
      ∧ ∀ (j : Place) (d : MapEntry), j < k → m.places[j] = some d → d.talkgroup ≠ tg := by
  unfold InterestMap.place?
  rw [firstPlace?_eq_some]
  constructor
  · rintro ⟨h1, h2⟩
    refine ⟨?_, fun j d hj hd => ?_⟩
    · cases he : m.places[k] with
      | none => rw [he] at h1; simp at h1
      | some e => rw [he] at h1; exact ⟨e, rfl, by simpa using h1⟩
    · have := h2 j hj
      rw [hd] at this
      simpa using this
  · rintro ⟨⟨e, he, ht⟩, h2⟩
    refine ⟨by rw [he]; simp [ht], fun j hj => ?_⟩
    cases hd : m.places[j] with
    | none => rfl
    | some d => simpa using h2 j d hj hd

/-- No place holds a talkgroup that is not in the map. -/
theorem InterestMap.place?_eq_none {m : InterestMap} {tg : Nat} :
    m.place? tg = none ↔ ∀ (j : Place) (d : MapEntry), m.places[j] = some d → d.talkgroup ≠ tg := by
  unfold InterestMap.place?
  rw [firstPlace?_eq_none]
  constructor
  · intro h j d hd
    have := h j
    rw [hd] at this
    simpa using this
  · intro h j
    cases hd : m.places[j] with
    | none => rfl
    | some d => simpa using h j d hd

/-! ## The requested list (R47) -/

theorem mem_dropRepeats {l : List Nat} {t : Nat} : t ∈ dropRepeats l ↔ t ∈ l := by
  induction l with
  | nil => simp [dropRepeats]
  | cons a l ih =>
    simp only [dropRepeats, List.mem_cons, List.mem_filter, ih, bne_iff_ne, ne_eq]
    by_cases h : t = a <;> simp [h]

theorem dropRepeats_sublist (l : List Nat) : (dropRepeats l).Sublist l := by
  induction l with
  | nil => exact List.Sublist.slnil
  | cons a l ih => exact (List.filter_sublist.trans ih).cons_cons a

theorem dropRepeats_append_one (l : List Nat) (a : Nat) :
    dropRepeats (l ++ [a]) = if a ∈ l then dropRepeats l else dropRepeats l ++ [a] := by
  induction l with
  | nil => rfl
  | cons b l ih =>
    simp only [List.cons_append, dropRepeats, ih, List.mem_cons]
    by_cases hb : a = b
    · subst hb; by_cases hl : a ∈ l <;> simp [hl]
    · by_cases hl : a ∈ l <;> simp [hl, hb]

/-- Of the first n IDs, each one that is in range and not a repeat, in the order carried. -/
theorem dropRepeats_filter_take (ids : List Nat) (n : Nat) :
    dropRepeats ((ids.take n).filter talkgroupInRange) = (List.range n).filterMap (fun k =>
      ids[k]?.bind (fun tg => if 1 ≤ tg ∧ tg ≤ 65534 ∧ tg ∉ ids.take k then some tg else none)) := by
  induction n with
  | zero => rfl
  | succ n ih =>
    rw [List.take_add_one, List.range_succ, List.filterMap_append, List.filter_append, ← ih]
    cases he : ids[n]? with
    | none => simp [he]
    | some tg =>
      by_cases ht : talkgroupInRange tg = true
      · have hr : 1 ≤ tg ∧ tg ≤ 65534 := of_decide_eq_true ht
        rw [Option.toList_some, List.filter_cons_of_pos ht, List.filter_nil, dropRepeats_append_one]
        by_cases hm : tg ∈ ids.take n <;> simp [he, hm, hr, ht]
      · have hr : ¬(1 ≤ tg ∧ tg ≤ 65534) := fun h => ht (decide_eq_true h)
        have hn : ¬(1 ≤ tg ∧ tg ≤ 65534 ∧ tg ∉ ids.take n) := fun h => hr ⟨h.1, h.2.1⟩
        simp [he, ht, hn]

/-- The requested list of R47. -/
theorem requestedList_eq (ids : List Nat) : requestedList ids = (List.range 4).filterMap (fun k =>
    ids[k]?.bind (fun tg => if 1 ≤ tg ∧ tg ≤ 65534 ∧ tg ∉ ids.take k then some tg else none)) := dropRepeats_filter_take ids 4

/-- The requested list is the list carried unless a step of R47 removed an ID. -/
theorem listReduced_iff (ids : List Nat) : listReduced ids = true ↔ requestedList ids ≠ ids := by
  have hs : (requestedList ids).Sublist ids := ((dropRepeats_sublist _).trans List.filter_sublist).trans (List.take_sublist _ _)
  simp only [listReduced, bne_iff_ne, ne_eq]
  exact not_congr ⟨hs.eq_of_length, fun h => by rw [h]⟩

/-! ## Locks (R157) -/

/-- A group is effectively locked by its own lock, and by its mark while the incident flag is set. -/
theorem State.effectiveLocks_eq (s : State) : s.effectiveLocks =
    ⟨s.protection.own.tables || (s.profiles.incident && s.protection.marks.tables),
      s.protection.own.profiles || (s.profiles.incident && s.protection.marks.profiles),
      s.protection.own.neighbours || (s.profiles.incident && s.protection.marks.neighbours),
      s.protection.own.limits || (s.profiles.incident && s.protection.marks.limits)⟩ := by
  unfold State.effectiveLocks
  cases s.profiles.incident <;> simp

end Sys2Proof.Machine
end

