-- ==== Sys2Proof/Tests/Slice0.lean ====
section
/-! SUPPORT. The model's own tests: ill-formed commands, written frames, one step of each command against the spec's worked numbers,
and for each obligation with hypotheses a state and operands that meet them. -/

namespace Sys2Proof.Tests

open Sys2Proof Sys2Proof.Machine

-- One theorem at a time: each kernel evaluation waits for the ones before it, and a thread for each would be too many.
set_option Elab.async false

/-! ## Well-formedness: an ill-formed command for each check, refused -/

theorem test_wf_byte : (Instr.fetch .link 255).wf = true ∧ (Instr.fetch .link 256).wf = false := by decide
theorem test_wf_two_bytes : (Instr.setSite .maintenance 65535).wf = true ∧ (Instr.setSite .maintenance 65536).wf = false := by decide
theorem test_wf_unit : (Instr.callStart (.channel 0) 16777215).wf = true ∧ (Instr.callStart (.channel 0) 16777216).wf = false := by
  decide
theorem test_wf_bias : (Instr.setNeighbour .maintenance 0 1 (-128)).wf = true ∧ (Instr.setNeighbour .maintenance 0 1 (-129)).wf = false
    ∧ (Instr.setNeighbour .maintenance 0 1 128).wf = false := by decide
theorem test_wf_limit : (Instr.setLimits .maintenance ⟨none, some 65534, none⟩).wf = true
    ∧ (Instr.setLimits .maintenance ⟨some 65535, none, none⟩).wf = false
    ∧ (Instr.setLimits .maintenance ⟨none, some 65535, none⟩).wf = false := by decide
theorem test_wf_threshold : (Instr.setLimits .maintenance ⟨none, none, some 254⟩).wf = true
    ∧ (Instr.setLimits .maintenance ⟨none, none, some 255⟩).wf = false := by decide
theorem test_wf_talkgroups : (Instr.register (.channel 0) ⟨1, 0, 0, false, 0, 0, List.replicate 15 65535⟩).wf = true
    ∧ (Instr.register (.channel 0) ⟨1, 0, 0, false, 0, 0, List.replicate 16 1⟩).wf = false
    ∧ (Instr.askIn .link ⟨1, 1, 0, 0, [65536]⟩).wf = false := by decide
theorem test_wf_entries : (Instr.loadLevelTable .maintenance 0 (List.replicate 126 (255, 255))).wf = true
    ∧ (Instr.loadLevelTable .maintenance 0 (List.replicate 127 (0, 0))).wf = false
    ∧ (Instr.loadErrorTable .maintenance 0 (List.replicate 254 0)).wf = false
    ∧ (Instr.loadErrorTable .maintenance 0 [256]).wf = false := by decide +kernel
theorem test_wf_fields : (Instr.measure (.channel 0) ⟨1, 256, 0, 0, 0⟩).wf = false ∧ (Instr.claimIn .link ⟨1, 1, 256, false⟩).wf = false
    ∧ (Instr.answer .link ⟨0, 0, 16777216, 1, 0⟩).wf = false := by decide

/-! ## Frames written out from R187 and R188 -/

theorem test_frame_fetch : decodeFrame [1, 1, 8] = some (.fetch 8) := by decide
theorem test_frame_deregister : decodeFrame [17, 3, 0, 158, 52] = some (.deregister 40500) := by decide
theorem test_frame_measure : decodeFrame [18, 8, 0, 158, 52, 1, 0, 212, 97, 3] = some (.measure ⟨40500, 1, 212, 97, 3⟩) := by decide
theorem test_frame_claim_in : decodeFrame [32, 7, 0, 158, 52, 1, 154, 7, 1] = some (.claimIn ⟨40500, 410, 7, true⟩) := by decide
theorem test_frame_ask_in : decodeFrame [33, 10, 0, 158, 52, 1, 154, 1, 6, 1, 1, 45] = some (.askIn ⟨40500, 410, 1, 6, [301]⟩) := by
  decide
theorem test_frame_answer : decodeFrame [34, 8, 0, 15, 0, 158, 52, 0, 212, 1] = some (.answer ⟨0, 15, 40500, 212, 1⟩) := by decide
theorem test_frame_set_neighbour : decodeFrame [51, 4, 1, 1, 49, 253] = some (.setNeighbour 1 305 (-3)) := by decide
theorem test_frame_set_limits : decodeFrame [52, 5, 255, 255, 0, 16, 255] = some (.setLimits ⟨none, some 16, none⟩) := by decide
theorem test_frame_level_table : decodeFrame [49, 4, 40, 1, 166, 16] = some (.loadLevelTable 40 [(166, 16)]) := by decide
theorem test_frame_register : decodeFrame [16, 13, 0, 25, 205, 2, 3, 0, 90, 0, 2, 1, 45, 0, 77] =
    some (.register ⟨6605, 2, 3, false, 90, 0, [301, 77]⟩) := by decide
theorem test_frame_bits : bytesOfBits [true, false, false, false, false, false, false, true, true, true] = [129] := by decide
theorem test_frame_lengths : decodeFrame [1] = none ∧ decodeFrame [9, 0] = none ∧ decodeFrame [1, 2, 8, 8] = none
    ∧ decodeFrame [1, 1] = none ∧ decodeFrame [16, 11, 0, 25, 205, 2, 3, 0, 90, 0, 16, 1, 45] = none := by decide

/-! ## States the tests start from -/

/-- Site 410 with every port OPEN and neighbours 212 UP, 87 FADING and 140 UP in slots 0 to 2. -/
def site : State :=
  { State.reset with
    neighbours := ((State.reset.neighbours.set 0 (some ⟨212, 0, .up⟩)).set 1 (some ⟨87, 0, .fading⟩)).set 2 (some ⟨140, 2, .up⟩)
    ports := { State.reset.ports with
      link := { State.reset.ports.link with isOpen := true }
      channels := Vector.replicate 4 ⟨.opened, 0, [], false, []⟩ }
    protection := { State.reset.protection with site := 410 } }

/-- An ACTIVE record. -/
def radio : Record where
  unit := 40500
  state := .active
  cls := .air
  seq := 6
  serving := some 0
  talkgroups := [301]
  home := some 2000
  neighbours := []
  heard := false
  history := Vector.replicate 8 true
  inCall := false
  queued := false
  target := none
  slot := none
  claimPending := false
  stateAge := 0
  origin := none
  stamp := .even

/-- The same radio LOST, EXPECTED, and TRANSIT in slot 0. -/
def lostRadio : Record := { radio with state := .lost }
def expectedRadio : Record := { radio with state := .expected, serving := none, home := none, origin := some 212 }
def transitRadio : Record :=
  { radio with state := .transit, slot := some 0, neighbours := [⟨212, 2400, 1, 3, 0, false⟩, ⟨87, 900, 0, 1, 0, false⟩] }
/-- The same radio queued for site 212. -/
def queuedRadio : Record := { radio with queued := true, target := some 212, neighbours := [⟨212, 2400, 1, 3, 0, false⟩] }

/-- The table with one record, in place 0. -/
def oneRecord (r : Record) : VisitorTable :=
  ({ VisitorTable.reset with free := (List.finRange 384).tail } : VisitorTable).occupy 0 r

/-- The site with one record, whose talkgroup 301 the map counts when the record's state is counted. -/
def siteWith (r : Record) : State :=
  { site with
    visitors := oneRecord r
    interest := { site.interest with places := site.interest.places.set 0 (if r.counted then some ⟨301, 1, .joined, true, false⟩ else none) } }

/-- The site with one TRANSIT record, whose slot 0 has generation 0, target 212 and a phase given. -/
def siteInPhase (ph : Phase) (r : Record) : State :=
  let s := siteWith r
  { s with handover := { s.handover with slots := s.handover.slots.set 0 ⟨0, some ⟨ph, 0, 212, ⟨14, 0⟩, 80, 100⟩⟩ } }

/-- The site with one queued record, at the head of its class queue, and the link queue full of notices that are not urgent. -/
def siteQueued : State :=
  let s := siteWith queuedRadio
  ({ s with handover := { s.handover with queues := s.handover.queues.set 1 [0] } } : State).modifyLink
    (fun p => { p with queue := List.replicate 64 ⟨.join 5 410, 0⟩, attention := true })

/-- A sweep in flight that has the record still to visit. -/
def sweeping (s : State) : State :=
  { s with sweep := { s.sweep with parity := .odd, inFlight := true, unvisited := 1, snapshot := some ⟨8, 3, 20, 4, 30, 10, 6⟩ } }

/-- Whether an outcome is a next state of which a test holds. -/
def goes (o : Host.Outcome State Fault Refusal) (test : State → Bool) : Bool :=
  match o with
  | .next t => test t
  | .fault _ => false
  | .refused _ => false

/-- Whether a step leaves exactly one confirmation on a port, and a test holds of the state. -/
def answers (o : Host.Outcome State Fault Refusal) (p : Port) (c : Confirmation) (test : State → Bool := fun _ => true) : Bool :=
  goes o (fun t => t.outbound p == [c] && test t)

def linkNotices (s : State) : List LinkNotice := s.ports.link.queue.map QueuedNotice.notice

/-! ## One step of each command -/

/-- R174: the count is clamped to 1, and the rest stays. -/
theorem test_fetch : answers (exec (.fetch .link 0) (site.modifyLink (fun p => { p with queue := [⟨.join 88 410, 3⟩, ⟨.leave 9 410, 1⟩] })))
    .link ⟨1, .done true none (.fetched [.link (.join 88 410)] 1)⟩ (fun t => linkNotices t == [.leave 9 410]) = true := by decide +kernel

/-- R162: no site number, no opening. -/
theorem test_open_not_ready : answers (exec (.openPort .link) State.reset) .link ⟨2, .refused .notReady⟩ = true := by decide +kernel

/-- R143, R144: the opening posts the REFRESH. -/
theorem test_open_link : answers (exec (.openPort .link) (site.modifyLink (fun p => { p with isOpen := false }))) .link
    ⟨2, .done false none (.opened .closed none)⟩ (fun t => t.ports.link.isOpen && linkNotices t == [.refresh 410]) = true := by
  decide +kernel

/-- 11.5.5: ORDERED stays, neighbours go DOWN, LINK_CLOSED with detail 3. -/
theorem test_close_link : answers (exec (.closePort .link) (siteInPhase .ordered transitRadio)) .link
    ⟨3, .done false none (.closed .opened 0)⟩ (fun t => t.neighbours[0] == some ⟨212, 0, .down⟩ && t.phase? 0 == some .ordered
      && t.ports.maintenance.alarms == [⟨.linkClosed, 1, 3⟩] && t.ports.maintenance.attention) = true := by decide +kernel

/-- 3.8 step 1: the list reduced to 301 and 77, x = 100 taken whole, a CLAIM and a JOIN posted. -/
theorem test_register_new : answers (exec (.register (.channel 0) ⟨6605, 2, 3, false, 90, 0, [301, 301, 0, 77, 5120, 9]⟩) (siteWith radio))
    (.channel 0) ⟨16, .done true (some .applied) (.registered ⟨.new, 1, 3, [301, 77], false, 100, 16, 1600, none⟩)⟩
    (fun t => linkNotices t == [.claim 6605 410 3 false, .join 77 410]
      && t.interest.places[0] == some ⟨301, 2, .joined, true, false⟩ && t.visitors.age == [0, 1] && t.ports.link.attention) = true := by
  decide +kernel

/-- R53: sequence 14 behind stored 6 by 8 is refused STALE, counted and nothing more. -/
theorem test_register_stale : answers (exec (.register (.channel 0) ⟨40500, 1, 14, false, 90, 0, []⟩) (siteWith radio)) (.channel 0)
    ⟨16, .stale 6⟩ (fun t => t.record? 0 == some radio && t.ports.channels[0].chatter == 1) = true := by decide +kernel

/-- R57, R109: the CANCEL of a TRANSIT record. -/
theorem test_deregister : answers (exec (.deregister (.channel 1) 40500) (siteInPhase .asked transitRadio)) (.channel 1)
    ⟨17, .done false none (.deregistered .transit (some .posted))⟩
    (fun t => linkNotices t == [.cancel 40500 410 212 0 0] && t.phase? 0 == none && t.record? 0 == none
      && t.interest.places[0] == some ⟨301, 0, .leaving ⟨30, 0⟩, true, false⟩) = true := by decide +kernel

/-- 2.7.1: S from 2000 to 1740. -/
theorem test_measure_home : answers (exec (.measure (.channel 1) ⟨40500, 0, 0, 97, 3⟩) (siteWith radio)) (.channel 1)
    ⟨18, .done false (some .applied) (.measured 60 4 (some .home) (some 1740) none)⟩
    (fun t => t.record? 0 == some { radio with home := some 1740, heard := true }) = true := by decide +kernel

/-- 2.7.5 case 2: the entry for the higher of two equal estimates gives way. -/
theorem test_measure_displaces :
    answers (exec (.measure (.channel 2) ⟨40500, 1, 140, 98, 0⟩)
      (siteWith { radio with neighbours :=
        [⟨212, 2300, 1, 2, 0, false⟩, ⟨87, 1280, 3, 0, 4, false⟩, ⟨305, 1280, 0, 0, 0, false⟩] })) (.channel 2)
    ⟨18, .done false (some .applied) (.measured 84 16 (some (.site 140)) (some 1344) (some 305))⟩
    (fun t => (t.record? 0).any (fun r => r.neighbours ==
      [⟨212, 2300, 1, 2, 0, false⟩, ⟨87, 1280, 3, 0, 4, false⟩, ⟨140, 1344, 0, 0, 0, false⟩])) = true := by decide +kernel

/-- R137: an entry sampled again while an ORDERED transaction to its site runs is late, and takes no cooldown when that fails. -/
theorem test_measure_late :
    goes (exec (.measure (.channel 2) ⟨40500, 1, 212, 98, 0⟩) (siteInPhase .ordered { transitRadio with neighbours := [] }))
      (fun t => (t.record? 0).any (fun r => r.neighbours == [⟨212, 1344, 0, 0, 0, true⟩])) = true
    ∧ goes (exec (.claimTimerExpiry 0) (siteInPhase .ordered { transitRadio with neighbours := [⟨212, 1344, 0, 0, 0, true⟩] }))
      (fun t => (t.record? 0).any (fun r => r.state == .active && r.neighbours == [⟨212, 1344, 0, 0, 0, false⟩])) = true := by
  decide +kernel

/-- R56, R58: a LOST record comes back, and its talkgroup is counted. -/
theorem test_call_start : answers (exec (.callStart (.channel 2) 40500) (siteWith lostRadio)) (.channel 2)
    ⟨19, .done false none (.callStarted .active)⟩
    (fun t => t.record? 0 == some { radio with inCall := true, heard := true } && linkNotices t == [.join 301 410]) = true := by
  decide +kernel

/-- R102: the end of the call lets the MOVE go. -/
theorem test_call_end : answers (exec (.callEnd (.channel 0) 40500) (siteInPhase (.held .call) { transitRadio with inCall := true }))
    (.channel 0) ⟨20, .done false none (.callEnded none)⟩
    (fun t => t.ports.channels[0].queue == [.move 40500 212 0 0] && t.phase? 0 == some .ordered && t.ports.channels[0].attention) = true := by
  decide +kernel

/-- 11.5.1: the target's claim is the success of the transaction. -/
theorem test_claim_in_target : answers (exec (.claimIn .link ⟨40500, 212, 7, false⟩) (siteInPhase .ordered transitRadio)) .link
    ⟨32, .done false (some .yielded) (.claimSettled (some .transit) none none)⟩
    (fun t => t.record? 0 == none && t.handover.slots[0] == ⟨0, none⟩ && linkNotices t == []) = true := by decide +kernel

/-- 11.5.3: half a cycle away is not newer; the COUNTERCLAIM carries the stored sequence. -/
theorem test_claim_in_kept : answers (exec (.claimIn .link ⟨40500, 87, 14, false⟩) (siteWith radio)) .link
    ⟨32, .done false (some .kept) (.claimSettled (some .active) (some 6) (some .posted))⟩
    (fun t => linkNotices t == [.counterclaim 40500 410 6 87]) = true := by decide +kernel

/-- 5.8.4 step 1: a LOST record on the pending-claims list becomes EXPECTED and leaves the list. -/
theorem test_ask_in : answers (exec (.askIn .link ⟨40500, 140, 1, 9, [77]⟩)
      { siteWith { lostRadio with claimPending := true, stateAge := 6 } with
        claims := [⟨0, false⟩]
        ports := (site.modifyLink (fun p => { p with queue := List.replicate 64 ⟨.join 5 410, 0⟩ })).ports }) .link
    ⟨33, .done false none (.asked .accept (some 0) (some .lost) none)⟩
    (fun t => t.claims == [] && (t.record? 0).any (fun r => r.state == .expected && r.origin == some 140 && r.seq == 9
      && r.talkgroups == [77] && r.stateAge == 0 && r.serving == none && !r.claimPending)) = true := by decide +kernel

/-- 11.5.1: ACCEPT posts the MOVE and starts the claim timer of 80. -/
theorem test_answer_accept : answers (exec (.answer .link ⟨0, 0, 40500, 212, 0⟩) (siteInPhase .asked transitRadio)) .link
    ⟨34, .done false none (.answered .ordered)⟩
    (fun t => t.handover.slots[0] == ⟨0, some ⟨.ordered, 0, 212, ⟨80, 0⟩, 80, 100⟩⟩
      && t.ports.channels[0].queue == [.move 40500 212 0 0]) = true := by decide +kernel

/-- 5.8.2: an ANSWER of an older generation is refused UNKNOWN. -/
theorem test_answer_late : answers (exec (.answer .link ⟨0, 15, 40500, 212, 0⟩) (siteInPhase .asked transitRadio)) .link
    ⟨34, .refused .unknown⟩ (fun t => t.phase? 0 == some .asked) = true := by decide +kernel

/-- R139: DOWN ends the ASKED transaction with the cooldown of 10. -/
theorem test_link_status : answers (exec (.linkStatus .link 212 2) (siteInPhase .asked transitRadio)) .link
    ⟨35, .done false none (.linkStatus 0 .up (some (1, 0)))⟩
    (fun t => (t.record? 0).any (fun r => r.state == .active && r.neighbours == [⟨212, 2400, 1, 0, 10, false⟩, ⟨87, 900, 0, 0, 0, false⟩])
      && t.ports.maintenance.alarms == [⟨.neighbourDown, 1, 212⟩]) = true := by decide +kernel

/-- 8.7.2 step 1: 12 is clamped to 8. -/
theorem test_set_profile_field : answers (exec (.setProfileField .maintenance 0 6 12) site) .maintenance
    ⟨48, .done true none (.profileField .normal 6 8 4 true)⟩ (fun t => t.profiles.normal.lossWindow == 8) = true := by decide +kernel

/-- 2.7.2: entry 40 loaded with B = 166 and C = 16. -/
theorem test_load_level_table : answers (exec (.loadLevelTable .maintenance 40 [(166, 17)]) site) .maintenance
    ⟨49, .done true none (.levelsStored [⟨166, 16⟩])⟩
    (fun t => t.scoring.levels[40] == ⟨166, 16⟩ && t.scoring.levels[41] == ⟨164, 16⟩) = true := by decide +kernel

/-- R32: a run past the last entry is refused RANGE. -/
theorem test_load_error_table : answers (exec (.loadErrorTable .maintenance 15 [1, 2]) site) .maintenance ⟨50, .refused .range⟩ = true
    ∧ answers (exec (.loadErrorTable .maintenance 14 [1, 2]) site) .maintenance ⟨50, .done false none (.penaltiesStored [1, 2])⟩
      (fun t => t.scoring.penalties[14] == 1 && t.scoring.penalties[15] == 2 && t.scoring.penalties[13] == 104) = true := by
  decide +kernel

/-- 7.2.1: a replaced neighbour takes its entries and its ASKED transaction with it, with no cooldown. -/
theorem test_set_neighbour : answers (exec (.setNeighbour .maintenance 0 305 40) (siteInPhase .asked transitRadio)) .maintenance
    ⟨51, .done true none (.neighbourStored (some ⟨305, 31, .down⟩) (some 212) (some (1, 0, 1)))⟩
    (fun t => (t.record? 0).any (fun r => r.state == .active && r.neighbours == [⟨87, 900, 0, 0, 0, false⟩])
      && t.neighbours[0] == some ⟨305, 31, .down⟩) = true := by decide +kernel

/-- R182: an item marked unchanged stays, another is clamped. -/
theorem test_set_limits : answers (exec (.setLimits .maintenance ⟨some 200, none, some 0⟩) site) .maintenance
    ⟨52, .done true none (.limits (32, 128) (256, 256) (.half, .quarter))⟩
    (fun t => t.visitors.reserve == 128 && t.ports.allowance == 256 && t.ports.threshold == .quarter) = true := by decide +kernel

/-- R177: BUSY while a record is occupied; written on an empty table. -/
theorem test_set_site : answers (exec (.setSite .maintenance 411) (siteWith radio)) .maintenance ⟨53, .refused .busy⟩ = true
    ∧ answers (exec (.setSite .maintenance 411) site) .maintenance ⟨53, .done false none (.site 410 411)⟩
      (fun t => t.protection.site == 411) = true := by decide +kernel

/-- 10.8 step 1: TABLES locked. -/
theorem test_lock : answers (exec (.lock .maintenance 1) site) .maintenance
    ⟨54, .done false none (.locks ⟨false, false, false, false⟩ ⟨true, false, false, false⟩ ⟨true, false, false, false⟩)⟩
    (fun t => answers (exec (.loadErrorTable .maintenance 0 [1]) { t with ports := site.ports }) .maintenance ⟨50, .refused .locked⟩)
      = true := by decide +kernel

/-- R180: no group named is refused RANGE, bits 4 to 7 being ignored. -/
theorem test_unlock : answers (exec (.unlock .maintenance 0xF0) site) .maintenance ⟨55, .refused .range⟩ = true := by decide +kernel

theorem test_set_incident_locks : answers (exec (.setIncidentLocks .maintenance 9) site) .maintenance
    ⟨56, .done false none (.marks ⟨false, true, true, false⟩ ⟨true, false, false, true⟩ ⟨false, false, false, false⟩)⟩
    (fun t => t.protection.marks == ⟨true, false, false, true⟩) = true := by decide +kernel

/-- 10.8 steps 2 and 3: NEIGHBOURS is locked by its mark during an incident. -/
theorem test_declare_incident : answers (exec (.declareIncident .maintenance) site) .maintenance
    ⟨64, .done false none (.incidentBefore false .normal)⟩
    (fun t => t.profiles.incident && t.profiles.selection == .incident
      && answers (exec (.setNeighbour .maintenance 4 305 0) { t with ports := site.ports }) .maintenance ⟨51, .refused .locked⟩) = true := by
  decide +kernel

theorem test_stand_down :
    answers (exec (.standDown .maintenance) { site with profiles := { site.profiles with incident := true, selection := .incident } })
    .maintenance ⟨65, .done false none (.incidentBefore true .incident)⟩
    (fun t => !t.profiles.incident && t.profiles.selection == .normal) = true := by decide +kernel

/-- R24, R186: the record goes behind the free ones, the REFRESH is posted, the slot keeps its generation. -/
theorem test_site_reset : answers (exec (.siteReset .maintenance false) (siteInPhase .ordered transitRadio)) .maintenance
    ⟨66, .done false none (.siteReset 1 1 1 0 [0, 0, 0, 0] (some .posted) false)⟩
    (fun t => t.visitors.free == (List.finRange 384).tail ++ [0] && t.visitors.age == [] && t.record? 0 == none
      && linkNotices t == [.refresh 410] && t.interest.places[0] == none && t.handover.slots[0] == ⟨0, none⟩) = true := by decide +kernel

/-- 9.8.1: the last count before muting, and UNMUTE. -/
theorem test_unmute : answers (exec (.callStart (.channel 2) 40500)
      ((siteWith radio).modifyChannel 2 (fun p => { p with chatter := 256 }))) (.channel 2) ⟨19, .refused .muted⟩
    (fun t => t.ports.channels[2].state == .muted && t.ports.channels[2].chatter == 256
      && t.ports.maintenance.alarms == [⟨.portMuted 2, 1, 3⟩]
      && answers (exec (.unmute .maintenance 3) t) .maintenance ⟨67, .done false none (.unmuted .muted 256)⟩
        (fun u => u.ports.channels[2].state == .opened && u.ports.channels[2].chatter == 0)) = true := by decide +kernel

/-- R164: port 2 is channel port 1; port 6 is out of range. -/
theorem test_force_close : answers (exec (.forceClose .maintenance 2) (site.modifyChannel 0 (fun p => { p with queue := [.poll 7] })))
    .maintenance ⟨68, .done false none (.closed .opened 1)⟩ (fun t => t.ports.channels[0].state == .closed && t.ports.channels[0].queue == [])
      = true
    ∧ answers (exec (.forceClose .maintenance 6) site) .maintenance ⟨68, .refused .range⟩ = true := by decide +kernel

/-- R20, R21, R190: the record and its transaction, in bytes. -/
theorem test_read_record : goes (exec (.readRecord .maintenance 40500) (siteInPhase (.held .room) transitRadio)) (fun t =>
    (t.outbound .maintenance).map Confirmation.bytes ==
      [[80, 46, 0, 0, 0, 0, 3, 0, 158, 52, 1, 6, 1, 0, 255, 7, 208, 0, 0, 0, 0, 0, 1, 1, 45, 2,
        0, 212, 9, 96, 1, 3, 0, 0, 87, 3, 132, 0, 1, 0, 1, 2, 0, 0, 0, 212, 2, 14]]) = true := by decide +kernel

theorem test_site_status : goes (exec (.siteStatus .maintenance) (siteInPhase .asked transitRadio)) (fun t =>
    (t.outbound .maintenance).any (fun c => match c.reply with
      | .done false none (.status r) => r.site == 410 && r.freeCount == 383 && r.transitCount == 1 && r.slotsInUse == 1 && r.joined == 1
        && r.linkState == .opened && r.reserve == 32
      | _ => false)) = true := by decide +kernel

/-- R188: an unknown kind goes back as received; a frame that passes is served. -/
theorem test_format : answers (exec (.format (.channel 3) (bitsOfBytes [99, 0]) false) State.reset) (.channel 3) ⟨99, .refused .format⟩ = true
    ∧ answers (exec (.format (.channel 3) (bitsOfBytes [3, 0]) true) State.reset) (.channel 3) ⟨3, .refused .format⟩ = true
    ∧ answers (exec (.format .maintenance (bitsOfBytes [53, 2, 1, 154]) false) State.reset) .maintenance ⟨53, .done false none (.site 0 410)⟩
      = true := by decide +kernel

theorem test_reset_pin_low : goes (exec .resetPinLow siteQueued) (fun t => t.resetPinLow && !t.ports.link.attention
    && goes (exec (.siteStatus .maintenance) t) (fun u => u.outbound .maintenance == [])) = true := by decide +kernel

theorem test_power_on : goes (exec .powerOn { siteQueued with resetPinLow := true, pending := [.visit] }) (fun t => !t.resetPinLow
    && t.protection.site == 0 && t.visitors.age == [] && t.visitors.reserve == 32 && t.ports == State.reset.ports
    && t.pending == [.visit]) = true := by decide +kernel

/-- R69, R71: with a record the sweep runs; with none it ends in its own step. -/
theorem test_sweep_timer : goes (exec .sweepTimerExpiry (siteWith radio)) (fun t => t.sweep.inFlight && t.sweep.unvisited == 1
      && t.sweep.parity == .odd && t.sweep.timer == ⟨8, 0⟩ && t.sweep.snapshot == some ⟨8, 3, 20, 4, 30, 10, 6⟩) = true
    ∧ goes (exec .sweepTimerExpiry site) (fun t => !t.sweep.inFlight && t.sweep.parity == .odd && t.sweep.snapshot == none) = true := by
  decide +kernel

/-- 4.8.2 visit 3: N N N H and a POLL; the one record visited, the sweep ends. -/
theorem test_visit_polls :
    goes (exec .visit (sweeping (siteWith { radio with history := #v[false, false, true, true, true, true, true, true] }))) (fun t =>
      t.ports.channels[0].queue == [.poll 40500] && (t.record? 0).any (fun r => r.state == .active && r.stamp == .odd
        && r.history == #v[false, false, false, true, true, true, true, true]) && !t.sweep.inFlight) = true := by decide +kernel

/-- 4.8.3 visit 1: 2252 beats 2128 for the third time, and the record is granted a slot at once. -/
theorem test_visit_queues :
    goes (exec .visit (sweeping { siteWith { radio with
        heard := true, neighbours := [⟨212, 2300, 1, 2, 0, false⟩, ⟨140, 1344, 0, 1, 4, false⟩] } with
      neighbours := site.neighbours.set 0 (some ⟨212, -3, .up⟩) })) (fun t =>
      (t.record? 0).any (fun r => r.state == .transit && r.neighbours == [⟨212, 2300, 2, 3, 0, false⟩, ⟨140, 1344, 1, 0, 3, false⟩])
        && t.handover.slots[0] == ⟨1, some ⟨.asked, 0, 212, ⟨20, 0⟩, 80, 100⟩⟩
        && linkNotices t == [.ask 40500 410 212 0 1 .air 6 [301]]) = true := by decide +kernel

/-- R100, R104, R107: each timer in its phase fails the transaction with a CANCEL and the cooldown of 10. -/
def failedWithCancel (t : State) : Bool :=
  linkNotices t == [.cancel 40500 410 212 0 0] && t.handover.slots[0] == ⟨0, none⟩
    && (t.record? 0).any (fun r => r.state == .active && r.neighbours == [⟨212, 2400, 1, 0, 10, false⟩, ⟨87, 900, 0, 0, 0, false⟩])

theorem test_answer_timer : goes (exec (.answerTimerExpiry 0) (siteInPhase .asked transitRadio)) failedWithCancel = true := by
  decide +kernel
theorem test_hold_timer : goes (exec (.holdTimerExpiry 0) (siteInPhase (.held .call) transitRadio)) failedWithCancel = true := by
  decide +kernel
theorem test_claim_timer : goes (exec (.claimTimerExpiry 0) (siteInPhase .ordered transitRadio)) failedWithCancel = true
    ∧ goes (exec (.claimTimerExpiry 0) (siteInPhase .asked transitRadio)) (fun t => t.phase? 0 == some .asked) = true := by decide +kernel

/-- 6.7.1: an announced entry owes its LEAVE, which the free link queue takes at once. -/
theorem test_leave_timer : goes (exec (.leaveTimerExpiry 77) { site with interest :=
      { site.interest with places := site.interest.places.set 4 (some ⟨77, 0, .leaving ⟨0, 0⟩, true, false⟩), leaving := [4] } })
    (fun t => t.interest.places[4] == none && t.interest.leaving == [] && linkNotices t == [.leave 77 410]) = true := by decide +kernel

/-- 9.8.2 at 200 ms: the line rises for a notice that is not urgent. -/
theorem test_link_flush : goes (exec .linkFlushTimeout (site.modifyLink (fun p => { p with queue := [⟨.leave 410 410, 19⟩] })))
    (fun t => t.ports.link.attention && t.ports.link.queue == [⟨.leave 410 410, 20⟩]) = true := by decide +kernel

theorem test_clocked_out : goes (exec (.confirmationClockedOut .link) (site.confirm .link ⟨1, .refused .closed⟩))
    (fun t => t.outbound .link == []) = true := by decide +kernel

/-- R68: the 25th tick of 10 ms ends the last step of the sweep timer, and the expiry waits at the front. -/
theorem test_tick : goes (step { site with sweep := { site.sweep with timer := ⟨1, 24⟩ } }) (fun t => t.pending == [.sweepTimerExpiry]) = true
    ∧ goes (step site) (fun t => t.pending == [] && t.sweep.timer == ⟨8, 1⟩) = true := by decide +kernel

theorem test_step_takes_front : goes (step { site with pending := [.setSite .maintenance 411, .visit] })
    (fun t => t.protection.site == 411 && t.pending == [.visit]) = true := by decide +kernel

/-- R189: the confirmation of the arrival of 11.5.2, in bytes. -/
theorem test_confirmation_bytes :
    (Confirmation.bytes ⟨16, .done false (some .applied) (.registered ⟨.arrived, 40, 7, [301], false, 112, 4, 1792, none⟩)⟩) =
      [16, 15, 0, 2, 2, 0, 40, 7, 0, 112, 4, 7, 0, 0, 1, 1, 45] := by decide

/-- R189: outcome and marks of a kind whose results the spec does not lay out; two refusals. -/
theorem test_confirmation_marks : ((Reply.done true none (.levelsStored [⟨166, 16⟩])).body 49).take 2 = [0, 1]
    ∧ ((Reply.done false (some .kept) (.unmuted .muted 256)).body 67).take 2 = [0, 6]
    ∧ Confirmation.bytes ⟨99, .refused .format⟩ = [99, 2, 1, 0] ∧ Confirmation.bytes ⟨16, .stale 6⟩ = [16, 3, 9, 0, 6] :=
  ⟨rfl, rfl, rfl, rfl⟩

/-- R104, R125: the last 10 ms of a hold timer and of a leave timer queue their expiries. -/
theorem test_idle_queues_expiries : goes (step { siteInPhase (.held .room) transitRadio with
      handover := { site.handover with slots := site.handover.slots.set 0 ⟨0, some ⟨.held .room, 0, 212, ⟨1, 9⟩, 80, 100⟩⟩ }
      interest := { site.interest with places := site.interest.places.set 7 (some ⟨77, 0, .leaving ⟨1, 99⟩, true, false⟩), leaving := [7] } })
    (fun t => t.pending == [.holdTimerExpiry 0, .leaveTimerExpiry 77]
      && t.handover.slots[0] == ⟨0, some ⟨.held .room, 0, 212, ⟨0, 0⟩, 80, 100⟩⟩
      && t.interest.places[7] == some ⟨77, 0, .leaving ⟨0, 0⟩, true, false⟩) = true := by decide +kernel

/-! ## For each obligation with hypotheses, a state and operands that meet them

`hyps_<Name>` is about Obligations.<Name>; one conjunct for each clause. -/

/-- The conditions of Passes, as one decidable proposition. -/
abbrev PassesAll (s : State) (k : Kind) (p : Port) : Prop :=
  s.resetPinLow = false ∧ s.outbound p = [] ∧ k ∈ admittedKinds p ∧ (s.portState p = .closed → k = .openPort ∨ k = .closePort)
    ∧ (s.portState p = .muted → k = .fetch ∨ k = .closePort)
    ∧ (∀ c : Fin 4, p = .channel c → k ∈ countedKinds → s.ports.channels[c].chatter < s.ports.allowance)
    ∧ (k = .openPort → s.portState p = .closed → s.protection.site ≠ 0)
    ∧ (k = .loadLevelTable ∨ k = .loadErrorTable → s.effectiveLocks.tables = false)
    ∧ (k = .setProfileField → s.effectiveLocks.profiles = false) ∧ (k = .setNeighbour → s.effectiveLocks.neighbours = false)
    ∧ (k = .setLimits → s.effectiveLocks.limits = false)

theorem passes_of {s : State} {k : Kind} {p : Port} (h : PassesAll s k p) : Passes s k p :=
  ⟨h.1, h.2.1, h.2.2.1, h.2.2.2.1, h.2.2.2.2.1, h.2.2.2.2.2.1, h.2.2.2.2.2.2.1, h.2.2.2.2.2.2.2.1, h.2.2.2.2.2.2.2.2.1,
    h.2.2.2.2.2.2.2.2.2.1, h.2.2.2.2.2.2.2.2.2.2⟩

/-- The conditions of Settled, as one decidable proposition. -/
abbrev SettledAll (s : State) : Prop :=
  ¬(s.sweep.inFlight = true ∧ s.sweep.unvisited = 0) ∧ s.grantPlace.isNone = true ∧ s.refreshLines.ports = s.ports

theorem settled_of {s : State} (h : SettledAll s) : Settled s :=
  ⟨h.1, Option.isNone_iff_eq_none.1 h.2.1, by
    have : s.refreshLines = { s with ports := s.refreshLines.ports } := rfl
    rw [this, h.2.2]⟩

theorem record?_one (r : Record) (i : Index) : (oneRecord r).records[i] = if i = 0 then some r else none := by
  have h : (oneRecord r).records = (Vector.replicate 384 none).set 0 (some r) := rfl
  rw [h]
  by_cases hi : i = 0
  · subst hi; simp
  · have : (0 : Nat) ≠ i.val := fun e => hi (Fin.ext e.symm)
    simp [this, hi]

theorem tableSound_one (r : Record) : TableSound (oneRecord r) where
  partition :=
    { freeNodup := (List.tail_sublist (List.finRange 384)).nodup (List.nodup_finRange 384)
      ageNodup := by simp [oneRecord, VisitorTable.occupy, VisitorTable.reset]
      free_iff := fun i => by
        have hf : (oneRecord r).free = (List.finRange 384).tail := rfl
        rw [record?_one, hf, List.finRange_succ, List.tail_cons, List.mem_map]
        constructor
        · rintro ⟨j, _, rfl⟩; simp [Fin.succ_ne_zero]
        · intro h
          have hi : i ≠ 0 := fun e => by simp [e] at h
          exact ⟨i.pred hi, List.mem_finRange _, Fin.succ_pred i hi⟩
      age_iff := fun i => by
        have ha : (oneRecord r).age = [0] := rfl
        rw [record?_one, ha]; by_cases hi : i = 0 <;> simp [hi] }
  chains :=
    have hc : ∀ b : Fin 127, (oneRecord r).chains[b] = if b = bucketOf r.unit then [0] else [] := fun b => by
      have h : (oneRecord r).chains = (Vector.replicate 127 []).set (bucketOf r.unit) [0] := by
        simp [oneRecord, VisitorTable.occupy, VisitorTable.reset]
      rw [h]
      by_cases hb : b = bucketOf r.unit
      · subst hb; simp
      · have : (bucketOf r.unit).val ≠ b.val := fun e => hb (Fin.ext e.symm)
        simp [this, hb]
    { nodup := fun b => by rw [hc]; split <;> simp
      mem_iff := fun b i => by
        rw [hc, record?_one]
        by_cases hi : i = 0 <;> by_cases hb : b = bucketOf r.unit
        · simp [hi, hb]
        · simp [hi, hb, Ne.symm hb]
        · simp [hi, hb]
        · simp [hi, hb] }
  units := fun i j x y hx hy _ => by
    rw [record?_one] at hx hy
    by_cases hi : i = 0 <;> by_cases hj : j = 0 <;> simp_all

theorem record?_reset (i : Index) : VisitorTable.reset.records[i] = none := Vector.getElem_replicate i.isLt

theorem chain_reset (b : Fin 127) : VisitorTable.reset.chains[b] = [] := Vector.getElem_replicate b.isLt

theorem partition_reset : TablePartition VisitorTable.reset := by
  have hf : VisitorTable.reset.free = List.finRange 384 := by unfold VisitorTable.reset; with_reducible rfl
  have ha : VisitorTable.reset.age = [] := rfl
  refine ⟨by rw [hf]; exact List.nodup_finRange 384, by simp only [ha, List.nodup_nil], fun i => ?_, fun i => ?_⟩
  · rw [hf, record?_reset]; simp only [List.mem_finRange]
  · rw [ha, record?_reset]; simp only [List.not_mem_nil, ne_eq, not_true_eq_false]

theorem chains_reset : ChainsExact VisitorTable.reset := by
  refine ⟨fun b => ?_, fun b i => ?_⟩
  · rw [chain_reset]; exact List.nodup_nil
  · rw [chain_reset, record?_reset]; simp only [List.not_mem_nil, Option.any_none, Bool.false_eq_true]

theorem units_reset : UnitsDistinct VisitorTable.reset := by
  intro i j x y hx
  rw [record?_reset] at hx
  cases hx

theorem tableSound_reset : TableSound VisitorTable.reset := ⟨partition_reset, chains_reset, units_reset⟩

/-- A table with 384 records, all in one state. -/
def fullOf (st : RecordState) : VisitorTable where
  records := Vector.ofFn (fun i => some { lostRadio with state := st, unit := i.val + 1 })
  chains := Vector.ofFn (fun b => (List.finRange 384).filter (fun i => bucketOf (i.val + 1) == b))
  age := List.finRange 384
  free := []
  reserve := 32

theorem record?_full (st : RecordState) (i : Index) : (fullOf st).records[i] = some { lostRadio with state := st, unit := i.val + 1 } := by
  simp only [fullOf, Fin.getElem_fin, Vector.getElem_ofFn]

theorem chain_full (st : RecordState) (b : Fin 127) :
    (fullOf st).chains[b] = (List.finRange 384).filter (fun i => bucketOf (i.val + 1) == b) := by
  simp only [fullOf, Fin.getElem_fin, Vector.getElem_ofFn]

theorem age_full (st : RecordState) : (fullOf st).age = List.finRange 384 := by unfold fullOf; with_reducible rfl

theorem partition_full (st : RecordState) : TablePartition (fullOf st) := by
  have hf : (fullOf st).free = [] := rfl
  refine ⟨by rw [hf]; exact List.nodup_nil, by rw [age_full]; exact List.nodup_finRange 384, fun i => ?_, fun i => ?_⟩
  · rw [hf, record?_full]; simp only [List.not_mem_nil, reduceCtorEq]
  · rw [age_full, record?_full]; simp only [List.mem_finRange, ne_eq, reduceCtorEq, not_false_eq_true]

theorem chains_full (st : RecordState) : ChainsExact (fullOf st) := by
  refine ⟨fun b => ?_, fun b i => ?_⟩
  · rw [chain_full]; exact (List.nodup_finRange 384).filter _
  · rw [chain_full, record?_full]; simp only [List.mem_filter, List.mem_finRange, true_and, Option.any_some]

theorem units_full (st : RecordState) : UnitsDistinct (fullOf st) := by
  intro i j x y hx hy h
  rw [record?_full] at hx hy
  injection hx with hx
  injection hy with hy
  subst hx
  subst hy
  exact Fin.ext (Nat.succ.inj h)

theorem tableSound_full (st : RecordState) : TableSound (fullOf st) := ⟨partition_full st, chains_full st, units_full st⟩

theorem find_full (s : State) (st : RecordState) (unit : Nat) (h : s.visitors = fullOf st) (hu : 384 < unit) : s.find unit = none := by
  have : s.visitors.lookup unit = none := by
    rw [h, VisitorTable.lookup, List.find?_eq_none]
    intro i _
    rw [record?_full]
    simp only [Option.any_some, beq_iff_eq]
    omega
  simp only [State.find, this, Option.bind_none]

/-- A site with a table of 384 records. -/
def siteFull (st : RecordState) : State := { site with visitors := fullOf st }

/-- A state of one record, given what its slots and lists are. -/
theorem slotsExact_one {s : State} {r : Record} (h : s.visitors.records = (oneRecord r).records)
    (slots : ∀ k : Fin 8, s.handover.slots[k].transaction.map Transaction.record = if r.slot = some k then some 0 else none)
    (state : r.slot.isSome = true ↔ r.state = .transit) : SlotsExact s where
  named := fun k i => by
    rw [slots, State.record?, h, record?_one]
    by_cases hi : i = 0 <;> by_cases hk : r.slot = some k <;> simp [hi, hk]
    exact fun e => hi e.symm
  transit := fun i q hq => by
    rw [State.record?, h, record?_one] at hq
    by_cases hi : i = 0
    · simp only [hi, if_true, Option.some.injEq] at hq; exact hq ▸ state
    · simp [hi] at hq

theorem classQueuesExact_one {s : State} {r : Record} (h : s.visitors.records = (oneRecord r).records)
    (queues : ∀ c : Fin 4, s.handover.queues[c] = if r.state == .active && r.queued && r.cls.index == c then [0] else [])
    (queued : (r.queued = true → r.state = .active) ∧ r.target.isSome = r.queued) : ClassQueuesExact s where
  nodup := fun c => by rw [queues]; split <;> simp
  mem_iff := fun c i => by
    rw [queues, State.record?, h, record?_one]
    by_cases hi : i = 0
    · subst hi; simp only [if_true, Option.any_some]; split <;> simp_all
    · simp only [hi, if_false, Option.any_none, Bool.false_eq_true, iff_false]; split <;> simp [hi]
  queued := fun i q hq => by
    rw [State.record?, h, record?_one] at hq
    by_cases hi : i = 0
    · simp only [hi, if_true, Option.some.injEq] at hq; exact hq ▸ queued
    · simp [hi] at hq

theorem claimsExact_one {s : State} {r : Record} (h : s.visitors.records = (oneRecord r).records) (none : s.claims = [])
    (hr : r.claimPending = false) : ClaimsExact s where
  nodup := by rw [none]; exact List.nodup_nil
  mem_iff := fun i => by
    rw [none, State.record?, h, record?_one]
    by_cases hi : i = 0 <;> simp [hi, hr]

theorem forall_record_one {s : State} {r : Record} {P : Record → Prop} (h : s.visitors.records = (oneRecord r).records) (hr : P r) :
    ∀ (i : Index) (q : Record), s.record? i = some q → P q := fun i q hq => by
  rw [State.record?, h, record?_one] at hq
  by_cases hi : i = 0
  · simp only [hi, if_true, Option.some.injEq] at hq; exact hq ▸ hr
  · simp [hi] at hq

theorem hyps_IdleStepIsTenMilliseconds : (siteWith radio).pending = [] ∧ (siteWith radio).resetPinLow = false := ⟨rfl, rfl⟩

theorem hyps_IdleStepIsTenMilliseconds_urgent : (LinkNotice.counterclaim 7 410 15 0).urgent = true ∧ (LinkNotice.refresh 410).urgent = false
    ∧ Threshold.full.count = 64 := by decide

theorem hyps_ResetPinLowSilencesEngine : ({ site with resetPinLow := true } : State).resetPinLow = true ∧ Instr.visit ≠ .powerOn
    ∧ Instr.visit ≠ .resetPinLow := by decide

theorem hyps_EncodedRequestDecodes : (Request.register ⟨16777215, 255, 255, true, 255, 255, List.replicate 15 65535⟩).wf = true
    ∧ (Request.setNeighbour 255 65535 (-128)).wf = true ∧ (Request.setLimits ⟨none, some 65534, some 254⟩).wf = true
    ∧ (Request.loadLevelTable 255 (List.replicate 126 (255, 255))).wf = true ∧ (Request.fetch 0).wf = true := by decide +kernel

theorem hyps_EncodedRequestDecodes_codes : (4 : Nat) ∉ Kind.all.map Kind.code ∧ Kind.ofCode 4 = none ∧ Kind.ofCode 82 = none
    ∧ RadioClass.ofCode 4 = none ∧ LinkState.ofCode 3 = none ∧ ProfileName.ofCode 2 = none ∧ Threshold.ofCode 4 = none := by decide

theorem test_requested_list : requestedList [0, 5, 5, 65535, 7] = [5] ∧ listReduced [0, 5, 5, 65535, 7] = true
    ∧ requestedList [9, 1, 65534] = [9, 1, 65534] ∧ listReduced [9, 1, 65534] = false := by decide

theorem hyps_FrameIsServedAsItsRequest : (Request.loadErrorTable 255 (List.replicate 253 255)).wf = true
    ∧ (Request.siteReset true).wf = true
    ∧ decodeFrame (bytesOfBits (bitsOfBytes [66, 1, 255] ++ [true, false, true])) = some (.siteReset true) := by decide +kernel

theorem hyps_BadFrameIsRefusedFormat : Settled site ∧ site.resetPinLow = false
    ∧ (bytesOfBits (bitsOfBytes [255]) = [255] ∧ decodeFrame [255] = none)
    ∧ bytesOfBits (bitsOfBytes [1, 1, 8]) = [1, 1, 8] ∧ bytesOfBits (List.replicate 7 true) = []
    ∧ (Settled (State.reset.confirm (.channel 3) ⟨3, .refused .role⟩) ∧ (State.reset.confirm (.channel 3) ⟨3, .refused .role⟩).resetPinLow = false
      ∧ (State.reset.confirm (.channel 3) ⟨3, .refused .role⟩).outbound (.channel 3) ≠ []) :=
  ⟨settled_of (by decide +kernel), rfl, by decide, by decide, by decide, settled_of (by decide +kernel), rfl, by decide +kernel⟩

theorem hyps_RoleAndPortStateAreChecked : Settled site ∧ Settled State.reset
    ∧ (site.outbound .link = [] ∧ (Request.siteStatus.kind ∉ admittedKinds .link))
    ∧ (State.reset.portState (.channel 3) = .closed ∧ (Request.fetch 1).kind ∈ admittedKinds (.channel 3))
    ∧ (let s := site.modifyChannel 0 (fun p => { p with state := .muted })
       Settled s ∧ s.portState (.channel 0) = .muted ∧ Request.openPort.kind ∈ admittedKinds (.channel 0)) :=
  ⟨settled_of (by decide +kernel), settled_of (by decide +kernel), by decide, by decide, settled_of (by decide +kernel), by decide, by decide⟩

/-- Chatter counts at the allowance and one below it. -/
def siteCounted (n : Nat) : State := site.modifyChannel 3 (fun p => { p with chatter := n })

theorem hyps_AllowanceReachedMutesPort : Settled (siteCounted 256) ∧ (siteCounted 256).resetPinLow = false
    ∧ (siteCounted 256).outbound (.channel 3) = [] ∧ (Request.callStart 1).wf = true ∧ (Request.callStart 1).kind ∈ countedKinds
    ∧ (siteCounted 256).ports.channels[(3 : Fin 4)].state = .opened
    ∧ (siteCounted 256).ports.allowance ≤ (siteCounted 256).ports.channels[(3 : Fin 4)].chatter :=
  ⟨settled_of (by decide +kernel), rfl, by decide +kernel, by decide, by decide, by decide +kernel, by decide +kernel⟩

theorem hyps_CountedRequestRaisesChatter : (siteCounted 255).resetPinLow = false ∧ (siteCounted 255).outbound (.channel 3) = []
    ∧ (Request.measure ⟨0, 0, 0, 0, 0⟩).wf = true ∧ (Request.measure ⟨0, 0, 0, 0, 0⟩).kind ∈ countedKinds
    ∧ (siteCounted 255).ports.channels[(3 : Fin 4)].state = .opened
    ∧ (siteCounted 255).ports.channels[(3 : Fin 4)].chatter < (siteCounted 255).ports.allowance := by decide +kernel

theorem hyps_LockedGroupRefuses :
    (let s : State := { site with protection := { site.protection with own := ⟨true, false, false, true⟩ } }
     Settled s ∧ s.outbound .maintenance = [] ∧ s.protection.own.tables = true ∧ s.protection.own.limits = true)
    ∧ (let s : State := { site with profiles := { site.profiles with incident := true, selection := .incident } }
       Settled s ∧ s.outbound .maintenance = [] ∧ s.profiles.incident = true ∧ s.protection.marks.profiles = true
        ∧ s.protection.marks.neighbours = true) :=
  ⟨⟨settled_of (by decide +kernel), by decide⟩, settled_of (by decide +kernel), by decide⟩

theorem hyps_UnitOutOfRangeIsRefused : Settled site ∧ Passes site .deregister (.channel 0) ∧ Passes site .readRecord .maintenance
    ∧ Passes site .claimIn .link ∧ Passes site .askIn .link ∧ Passes site .answer .link ∧ Passes site .callStart (.channel 1)
    ∧ Passes site .callEnd (.channel 2) ∧ Passes site .measure (.channel 3) ∧ Passes (siteCounted 255) .register (.channel 3) :=
  ⟨settled_of (by decide +kernel), passes_of (by decide +kernel), passes_of (by decide +kernel), passes_of (by decide +kernel),
    passes_of (by decide +kernel), passes_of (by decide +kernel), passes_of (by decide +kernel), passes_of (by decide +kernel),
    passes_of (by decide +kernel), passes_of (by decide +kernel)⟩

theorem hyps_UnknownUnitIsRefused : Settled site ∧ NamesRadio 1 ∧ NamesRadio 16777214 ∧ site.find 1 = none ∧ site.find 16777214 = none
    ∧ Passes site .deregister (.channel 0) ∧ Passes site .readRecord .maintenance ∧ Passes site .callStart (.channel 0)
    ∧ Passes site .callEnd (.channel 0) ∧ Passes site .measure (.channel 0)
    ∧ (TableSound (siteWith radio).visitors ∧ (siteWith radio).record? 0 = some radio ∧ radio.unit = 40500
      ∧ (siteWith radio).find 40500 = some (0, radio)) :=
  ⟨settled_of (by decide +kernel), by decide, by decide, by decide +kernel, by decide +kernel, passes_of (by decide +kernel),
    passes_of (by decide +kernel), passes_of (by decide +kernel), passes_of (by decide +kernel), passes_of (by decide +kernel),
    tableSound_one _, by decide +kernel, rfl, by decide +kernel⟩

/-- A transaction HELD for room on a channel port whose queue is full. -/
def siteWaiting : State :=
  (siteInPhase (.held .room) transitRadio).modifyChannel 0 (fun p => { p with queue := List.replicate 32 (.poll 1) })

theorem hyps_FetchReturnsOldestNotices : (Passes site .fetch .link ∧ 1 = max 1 (min 8 0))
    ∧ (Passes site .fetch (.channel 0) ∧ 8 = max 1 (min 8 255) ∧ (∀ k : Fin 8, site.heldForRoom 0 k = false)
      ∧ site.notices (.channel 0) = [])
    ∧ (Passes siteWaiting .fetch (.channel 0) ∧ siteWaiting.ports.channels[(0 : Fin 4)].queue ≠ []
      ∧ siteWaiting.heldForRoom 0 0 = true) :=
  ⟨⟨passes_of (by decide +kernel), rfl⟩, ⟨passes_of (by decide +kernel), rfl, by decide +kernel, by decide +kernel⟩,
    passes_of (by decide +kernel), by decide +kernel, by decide +kernel⟩

theorem hyps_OpenOpensChannelPort :
    (let s := site.modifyChannel 1 (fun p => { p with state := .closed })
     Passes s .openPort (.channel 1) ∧ Settled s ∧ (∀ k : Fin 8, s.heldForRoom 1 k = false) ∧ s.ports.channels[(1 : Fin 4)].state = .closed)
    ∧ (Passes site .openPort (.channel 1) ∧ Settled site ∧ (∀ k : Fin 8, site.heldForRoom 1 k = false)
        ∧ site.ports.channels[(1 : Fin 4)].state = .opened)
    ∧ (Settled State.reset ∧ State.reset.outbound .link = [] ∧ State.reset.portState .link = .closed ∧ State.reset.protection.site = 0)
    ∧ (Passes siteWaiting .openPort (.channel 0) ∧ siteWaiting.ports.channels[(0 : Fin 4)].state = .opened
      ∧ siteWaiting.heldForRoom 0 0 = true)
    ∧ (let s := (siteInPhase (.held .room) transitRadio).modifyChannel 0 (fun p => { p with state := .closed })
       Passes s .openPort (.channel 0) ∧ s.ports.channels[(0 : Fin 4)].state = .closed ∧ s.heldForRoom 0 0 = true) :=
  ⟨⟨passes_of (by decide +kernel), settled_of (by decide +kernel), by decide +kernel, by decide +kernel⟩,
    ⟨passes_of (by decide +kernel), settled_of (by decide +kernel), by decide +kernel, by decide +kernel⟩,
    ⟨settled_of (by decide +kernel), by decide⟩, ⟨passes_of (by decide +kernel), by decide +kernel, by decide +kernel⟩,
    passes_of (by decide +kernel), by decide +kernel, by decide +kernel⟩

theorem hyps_CloseClosesChannelPort : Settled site ∧ Passes site .closePort (.channel 3) ∧ Passes site .forceClose .maintenance :=
  ⟨settled_of (by decide +kernel), passes_of (by decide +kernel), passes_of (by decide +kernel)⟩

theorem slotsExact_phase (ph : Phase) : SlotsExact (siteInPhase ph transitRadio) :=
  slotsExact_one (r := transitRadio) rfl (by cases ph with
    | asked => decide +kernel
    | held r => cases r <;> decide +kernel
    | ordered => decide +kernel) (by decide)

theorem classQueuesExact_phase (ph : Phase) : ClassQueuesExact (siteInPhase ph transitRadio) :=
  classQueuesExact_one (r := transitRadio) rfl (by cases ph with
    | asked => decide +kernel
    | held r => cases r <;> decide +kernel
    | ordered => decide +kernel) (by decide)

theorem hyps_OpenLinkPortPostsRefreshFirst :
    (let s := site.modifyLink (fun p => { p with isOpen := false })
     Passes s .openPort .link ∧ s.ports.link.isOpen = false ∧ s.ports.link.queue = [])
    ∧ (Passes site .openPort .link ∧ site.ports.link.isOpen = true)
    ∧ (let s := siteInPhase .asked transitRadio
       Passes s .openPort .link ∧ s.ports.link.isOpen = true ∧ SlotsExact s ∧ ClassQueuesExact s ∧ s.phase? 0 = some .asked
        ∧ s.record? 0 = some transitRadio ∧ s.phase? 1 ≠ some .asked ∧ s.record? 1 = none) :=
  ⟨⟨passes_of (by decide +kernel), rfl, rfl⟩, ⟨passes_of (by decide +kernel), rfl⟩, passes_of (by decide +kernel), by decide +kernel,
    slotsExact_phase _, classQueuesExact_phase _, by decide +kernel, by decide +kernel, by decide +kernel, by decide +kernel⟩

theorem hyps_CloseLinkPortMakesIsland : SlotsExact (siteInPhase .asked transitRadio) ∧ ClassQueuesExact (siteInPhase .asked transitRadio)
    ∧ Passes (siteInPhase .asked transitRadio) .closePort .link ∧ Passes (siteInPhase .asked transitRadio) .forceClose .maintenance
    ∧ (siteInPhase .asked transitRadio).record? 0 = some transitRadio ∧ (siteInPhase .asked transitRadio).phase? 0 = some .asked
    ∧ ¬((siteInPhase .asked transitRadio).sweep.inFlight = true ∧ (siteInPhase .asked transitRadio).sweep.unvisited = 0)
    ∧ (siteInPhase .asked transitRadio).record? 383 = none :=
  ⟨slotsExact_phase _, classQueuesExact_phase _, passes_of (by decide +kernel), passes_of (by decide +kernel), by decide +kernel,
    by decide +kernel, by decide +kernel, by decide +kernel⟩

theorem hyps_UnmuteActsByPortState : Settled site ∧ Passes site .unmute .maintenance :=
  ⟨settled_of (by decide +kernel), passes_of (by decide +kernel)⟩

theorem hyps_ClockingOutFreesOutboundLine : (Settled (site.confirm .link ⟨1, .refused .closed⟩)
      ∧ (site.confirm .link ⟨1, .refused .closed⟩).resetPinLow = false)
    ∧ ((Reason.busy, 11) ∈ reasonCodes ∧ (some Effect.none, 5) ∈ effectCodes ∧ (some Fate.dropped, 2) ∈ fateCodes
      ∧ (some RecordState.lost, 4) ∈ stateCodes ∧ (RadioClass.general, 3) ∈ classCodes)
    ∧ (some (EstimateTarget.site 1023) = some (.site 1023) ∧ Result.laidOut (.callStarted .active) = none)
    ∧ (∃ x : TransactionItems, x.phase = .ordered ∧ x.remaining = 250) :=
  ⟨⟨settled_of (by decide +kernel), rfl⟩, by decide, ⟨rfl, rfl⟩, ⟨.ordered, 7, 15, 1023, 250⟩, rfl, rfl⟩

/-- R191: a MOVE, an ASK with two talkgroups and an alarm as FETCH returns them. -/
theorem test_notice_bytes : Notice.bytes (.channel (.move 40500 212 7 15)) = [1, 7, 0, 158, 52, 0, 212, 7, 15]
    ∧ Notice.bytes (.link (.ask 40500 410 212 0 1 .crew 6 [301, 77])) =
      [16, 16, 0, 158, 52, 1, 154, 0, 212, 0, 1, 2, 6, 2, 1, 45, 0, 77]
    ∧ Notice.bytes (.alarm ⟨.portMuted 3, 255, 4⟩) = [32, 5, 6, 255, 0, 0, 4] := by decide

/-- A map whose 256 places all hold one entry. -/
def fullMap (e : MapEntry) (leaving : List Place) : InterestMap := ⟨Vector.replicate 256 (some e), leaving, []⟩

theorem place_full (e : MapEntry) (l : List Place) (k : Place) : (fullMap e l).places[k] = some e := Vector.getElem_replicate k.isLt

theorem hyps_InterestCountsMembers :
    (let m : InterestMap := { InterestMap.reset with places := InterestMap.reset.places.set 0 (some ⟨301, 2, .joined, true, false⟩) }
     m.places[(0 : Place)] = some ⟨301, 2, .joined, true, false⟩
      ∧ m.places[(1 : Place)] = none ∧ ∀ j : Place, j < 1 → m.places[j] ≠ none)
    ∧ (InterestMap.reset.places[(0 : Place)] = none)
    ∧ ((∀ j : Place, (fullMap ⟨5, 1, .joined, true, false⟩ []).places[j] ≠ none)
      ∧ ∀ (j : Place) (d : MapEntry), (fullMap ⟨5, 1, .joined, true, false⟩ []).places[j] = some d → d.talkgroup ≠ 77)
    ∧ ((fullMap ⟨5, 0, .leaving ⟨1, 0⟩, true, false⟩ [255]).leaving = 255 :: []
      ∧ (fullMap ⟨5, 0, .leaving ⟨1, 0⟩, true, false⟩ [255]).places[(255 : Place)] = some ⟨5, 0, .leaving ⟨1, 0⟩, true, false⟩) :=
  ⟨by decide +kernel, by decide +kernel,
    ⟨fun j => by rw [place_full]; simp, fun j d h => by rw [place_full] at h; injection h with h; subst h; decide⟩,
    rfl, place_full _ _ _⟩

theorem hyps_InterestCountsMembers_lists :
    ({ site with interest := fullMap ⟨5, 1, .joined, true, false⟩ [] } : State).interest.increment 77 = none
    ∧ (site.interest.increment 77).isSome = true
    ∧ (∀ a ∈ [(⟨.tableFull, 255, 1⟩ : Alarm)], a.key ≠ .mapFull) ∧ (⟨.mapFull, 255, 40500⟩ : Alarm).key = .mapFull := by decide +kernel

/-- One LEAVING or JOINED entry for talkgroup 77 in the last place. -/
def siteMapped (ph : MapPhase) : State :=
  { site with interest :=
    { site.interest with
      places := site.interest.places.set 255 (some ⟨77, if ph = .joined then 1 else 0, ph, true, false⟩)
      leaving := if ph = .joined then [] else [255] } }

theorem mapped_only (ph : MapPhase) (j : Place) (d : MapEntry) (h : (siteMapped ph).interest.places[j] = some d) : j = 255 := by
  by_contra hj
  have : (255 : Nat) ≠ j.val := fun e => hj (Fin.ext e.symm)
  simp [siteMapped, site, State.reset, InterestMap.reset, this] at h

theorem hyps_LeaveAndFlushTimersExpire :
    ((siteMapped (.leaving ⟨0, 0⟩)).interest.places[(255 : Place)] = some ⟨77, 0, .leaving ⟨0, 0⟩, true, false⟩
      ∧ ∀ (j : Place) (d : MapEntry), (siteMapped (.leaving ⟨0, 0⟩)).interest.places[j] = some d → d.talkgroup = 77 → j = 255)
    ∧ ((siteMapped .joined).interest.places[(255 : Place)] = some ⟨77, 1, .joined, true, false⟩ ∧ Settled (siteMapped .joined)
      ∧ ∀ (j : Place) (d : MapEntry), (siteMapped .joined).interest.places[j] = some d → d.talkgroup = 77 → j = 255)
    ∧ (Settled site ∧ site.ports.link.queue = [] ∧ ∀ (j : Place) (d : MapEntry), site.interest.places[j] = some d → d.talkgroup ≠ 77)
    ∧ (let s := site.modifyLink (fun p => { p with queue := [⟨.leave 9 410, 19⟩] })
       Settled s ∧ s.ports.link.queue = ⟨.leave 9 410, 19⟩ :: []) :=
  ⟨⟨by decide +kernel, fun j d h _ => mapped_only _ j d h⟩, ⟨by decide +kernel, settled_of (by decide +kernel), fun j d h _ => mapped_only _ j d h⟩,
    ⟨settled_of (by decide +kernel), rfl, fun j d h => by
      have : site.interest.places[j] = none := Vector.getElem_replicate j.isLt
      rw [this] at h; cases h⟩,
    settled_of (by decide +kernel), rfl⟩

theorem hyps_ReleaseTakesRecordOutOfEveryList : (siteInPhase .ordered transitRadio).record? 0 = some transitRadio
    ∧ siteQueued.record? 0 = some queuedRadio ∧ (siteWith lostRadio).record? 0 = some lostRadio := by decide +kernel

theorem hyps_RegisterNewFillsRecord : Passes site .register (.channel 0) ∧ (List.replicate 15 301).length ≤ 15 ∧ NamesRadio 16777214
    ∧ RadioClass.ofCode 3 = some .general ∧ site.find 16777214 = none ∧ site.visitors.free = 0 :: (List.finRange 384).tail
    ∧ site.visitors.reserve < site.visitors.free.length ∧ TableSound site.visitors ∧ ClaimsExact site :=
  have hf : site.visitors.free = List.finRange 384 := by unfold site State.reset VisitorTable.reset; with_reducible rfl
  ⟨passes_of (by decide +kernel), by decide, by decide, rfl, by decide +kernel, by rw [hf, List.finRange_succ]; rfl,
    by rw [hf, List.length_finRange]; decide, tableSound_reset,
    ⟨List.nodup_nil, fun i => by
      have : site.record? i = none := record?_reset i
      rw [this]; exact ⟨fun h => absurd h List.not_mem_nil, fun h => absurd h Bool.false_ne_true⟩⟩⟩

theorem hyps_RegisterWithoutRoomEvictsOrIsRefused :
    (Passes (siteFull .lost) .register (.channel 0) ∧ NamesRadio 385 ∧ (siteFull .lost).find 385 = none
      ∧ (siteFull .lost).visitors.free = [] ∧ (siteFull .lost).visitors.free.length ≤ (siteFull .lost).visitors.reserve
      ∧ TableSound (siteFull .lost).visitors ∧ (∃ after, (siteFull .lost).visitors.age = [] ++ 0 :: after)
      ∧ (siteFull .lost).record? 0 = some { lostRadio with unit := 1 })
    ∧ (Passes (siteFull .active) .register (.channel 0) ∧ (siteFull .active).find 385 = none ∧ Settled (siteFull .active)
      ∧ ∀ (i : Index) (r : Record), (siteFull .active).record? i = some r → r.state ≠ .lost)
    ∧ (Settled (siteWith radio) ∧ Passes (siteWith radio) .register (.channel 0) ∧ (siteWith radio).find 40500 = some (0, radio)
      ∧ 8 ≤ (14 + 16 - radio.seq) % 16)
    ∧ (Settled (siteInPhase .asked transitRadio) ∧ Passes (siteInPhase .asked transitRadio) .register (.channel 0)
      ∧ (siteInPhase .asked transitRadio).find 40500 = some (0, transitRadio) ∧ 8 ≤ (5 + 16 - transitRadio.seq) % 16) :=
  ⟨⟨passes_of (by decide +kernel), by decide, find_full _ .lost _ rfl (by decide), rfl, Nat.zero_le _, tableSound_full _,
      ⟨(List.finRange 384).tail, (age_full .lost).trans (by rw [List.finRange_succ]; rfl)⟩, record?_full .lost 0⟩,
    ⟨passes_of (by decide +kernel), find_full _ .active _ rfl (by decide), settled_of (by decide +kernel), fun i r h => by
      have : (siteFull .active).record? i = some { lostRadio with state := .active, unit := i.val + 1 } := record?_full .active i
      rw [this] at h; injection h with h; subst h; exact fun e => by cases e⟩,
    ⟨settled_of (by decide +kernel), passes_of (by decide +kernel), by decide +kernel, by decide⟩,
    settled_of (by decide +kernel), passes_of (by decide +kernel), by decide +kernel, by decide⟩

theorem slotsExact_free (r : Record) (h : r.slot = none) (hs : r.state ≠ .transit) : SlotsExact (siteWith r) :=
  slotsExact_one (r := r) rfl (fun k => by
    have : (siteWith r).handover.slots[k] = ⟨0, none⟩ := Vector.getElem_replicate k.isLt
    rw [this, h]; simp) (by simp [h, hs])

theorem hyps_RegisterOfHeldRadioWritesRecord :
    (SlotsExact (siteWith expectedRadio) ∧ Passes (siteWith expectedRadio) .register (.channel 3)
      ∧ (siteWith expectedRadio).find 40500 = some (0, expectedRadio))
    ∧ (SlotsExact (siteWith lostRadio) ∧ Passes (siteWith lostRadio) .register (.channel 3)
      ∧ (siteWith lostRadio).find 40500 = some (0, lostRadio))
    ∧ (SlotsExact (siteWith radio) ∧ Passes (siteWith radio) .register (.channel 3) ∧ (siteWith radio).find 40500 = some (0, radio)
      ∧ relation radio.seq 6 false = .equal)
    ∧ (SlotsExact (siteInPhase .asked transitRadio) ∧ Passes (siteInPhase .asked transitRadio) .register (.channel 3)
      ∧ (siteInPhase .asked transitRadio).find 40500 = some (0, transitRadio) ∧ relation transitRadio.seq 13 false = .newer)
    ∧ (∀ why ∈ [HoldReason.call, .room], SlotsExact (siteInPhase (.held why) transitRadio)
      ∧ Passes (siteInPhase (.held why) transitRadio) .register (.channel 3)
      ∧ (siteInPhase (.held why) transitRadio).find 40500 = some (0, transitRadio) ∧ transitRadio.slot = some 0
      ∧ (siteInPhase (.held why) transitRadio).phase? 0 = some (.held why) ∧ relation transitRadio.seq 6 false = .equal)
    ∧ (SlotsExact siteQueued ∧ Passes siteQueued .register (.channel 3) ∧ siteQueued.find 40500 = some (0, queuedRadio)
      ∧ queuedRadio.cls ≠ .general ∧ relation queuedRadio.seq 0 true = .newer) :=
  ⟨⟨slotsExact_free _ rfl (by decide), passes_of (by decide +kernel), by decide +kernel⟩,
    ⟨slotsExact_free _ rfl (by decide), passes_of (by decide +kernel), by decide +kernel⟩,
    ⟨slotsExact_free _ rfl (by decide), passes_of (by decide +kernel), by decide +kernel, by decide⟩,
    ⟨slotsExact_phase _, passes_of (by decide +kernel), by decide +kernel, by decide⟩,
    fun why h => by
      simp only [List.mem_cons, List.not_mem_nil, or_false] at h
      rcases h with rfl | rfl <;>
        exact ⟨slotsExact_phase _, passes_of (by decide +kernel), by decide +kernel, rfl, by decide +kernel, by decide⟩,
    slotsExact_one (r := queuedRadio) rfl (by decide +kernel) (by decide), passes_of (by decide +kernel), by decide +kernel, by decide,
    by decide⟩

theorem hyps_DeregisterReleasesRecord :
    (Passes (siteWith lostRadio) .deregister (.channel 0) ∧ (siteWith lostRadio).find 40500 = some (0, lostRadio) ∧ lostRadio.slot = none)
    ∧ (Passes (siteInPhase .ordered transitRadio) .deregister (.channel 0)
      ∧ (siteInPhase .ordered transitRadio).find 40500 = some (0, transitRadio) ∧ transitRadio.slot = some 0
      ∧ (siteInPhase .ordered transitRadio).handover.slots[(0 : Fin 8)].transaction = some ⟨.ordered, 0, 212, ⟨14, 0⟩, 80, 100⟩) :=
  ⟨⟨passes_of (by decide +kernel), by decide +kernel, rfl⟩, passes_of (by decide +kernel), by decide +kernel, rfl, by decide +kernel⟩

theorem hyps_CallsMarkRecord :
    (Passes (siteWith lostRadio) .callStart (.channel 0) ∧ Passes (siteWith lostRadio) .callEnd (.channel 0)
      ∧ (siteWith lostRadio).find 40500 = some (0, lostRadio) ∧ lostRadio.slot = none)
    ∧ (let s := (siteInPhase (.held .call) transitRadio).modifyChannel 0 (fun p => { p with queue := List.replicate 31 (.poll 1) })
       Passes s .callEnd (.channel 0) ∧ s.find 40500 = some (0, transitRadio) ∧ s.phase? 0 = some (.held .call)
        ∧ transitRadio.serving = some 0 ∧ s.ports.channels[(0 : Fin 4)].state ≠ .closed
        ∧ s.ports.channels[(0 : Fin 4)].queue.length < 32)
    ∧ (∀ s ∈ [(siteInPhase (.held .call) transitRadio).modifyChannel 0 (fun p => { p with state := .closed }),
        (siteInPhase (.held .call) transitRadio).modifyChannel 0 (fun p => { p with queue := List.replicate 32 (.poll 1) })],
      PassesAll s .callEnd (.channel 1) ∧ s.find 40500 = some (0, transitRadio)
        ∧ s.handover.slots[(0 : Fin 8)].transaction = some ⟨.held .call, 0, 212, ⟨14, 0⟩, 80, 100⟩) :=
  ⟨⟨passes_of (by decide +kernel), passes_of (by decide +kernel), by decide +kernel, rfl⟩,
    ⟨passes_of (by decide +kernel), by decide +kernel, by decide +kernel, rfl, by decide +kernel, by decide +kernel⟩, by decide +kernel⟩

theorem hyps_ClaimInIsSettledByOneWinner :
    (Passes site .claimIn .link ∧ NamesRadio 1 ∧ site.NamesOtherSite 1023 ∧ Settled site ∧ site.find 1 = none)
    ∧ (Passes (siteWith expectedRadio) .claimIn .link ∧ (siteWith expectedRadio).find 40500 = some (0, expectedRadio))
    ∧ (Passes (siteWith radio) .claimIn .link ∧ (siteWith radio).NamesOtherSite 1 ∧ (siteWith radio).find 40500 = some (0, radio)
      ∧ Settled (siteWith radio) ∧ relation radio.seq 13 false = .newer ∧ relation radio.seq 14 false ≠ .newer)
    ∧ (let s := siteInPhase .asked transitRadio
       Passes s .claimIn .link ∧ s.find 40500 = some (0, transitRadio) ∧ Settled s ∧ relation transitRadio.seq 6 false ≠ .newer
        ∧ s.handover.slots[(0 : Fin 8)].transaction = some ⟨.asked, 0, 212, ⟨14, 0⟩, 80, 100⟩) :=
  ⟨⟨passes_of (by decide +kernel), by decide, by decide, settled_of (by decide +kernel), by decide +kernel⟩,
    ⟨passes_of (by decide +kernel), by decide +kernel⟩,
    ⟨passes_of (by decide +kernel), by decide, by decide +kernel, settled_of (by decide +kernel), by decide, by decide⟩,
    passes_of (by decide +kernel), by decide +kernel, settled_of (by decide +kernel), by decide, by decide +kernel⟩

theorem hyps_SequenceRelationIsModulo16 : ((15 : Int) - 15) % 16 = 0 ∧ 1 ≤ ((0 : Int) - 15) % 16 ∧ ((0 : Int) - 15) % 16 ≤ 7
    ∧ ((7 : Int) - 0) % 16 ≤ 7 ∧ 8 ≤ ((8 : Int) - 0) % 16 ∧ 8 ≤ ((14 : Int) - 15) % 16 := by decide

theorem hyps_EstimateMovesByTruncatedStep : 4080 ≤ 4080 ∧ 255 ≤ 255 ∧ 1 ≤ 1 ∧ 16 ≤ 16 ∧ smoothed 4080 0 1 = 3825 ∧ smoothed 0 255 16 = 4080 := by
  decide

theorem hyps_MeasureUplinkUpdatesHome :
    (Passes (siteWith expectedRadio) .measure (.channel 0) ∧ (siteWith expectedRadio).find 40500 = some (0, expectedRadio)
      ∧ expectedRadio.home = none ∧ Settled (siteWith expectedRadio) ∧ expectedRadio.state ≠ .lost)
    ∧ (Passes (siteWith lostRadio) .measure (.channel 0) ∧ (siteWith lostRadio).find 40500 = some (0, lostRadio)
      ∧ lostRadio.home = some 2000) :=
  ⟨⟨passes_of (by decide +kernel), by decide +kernel, rfl, settled_of (by decide +kernel), by decide⟩,
    passes_of (by decide +kernel), by decide +kernel, rfl⟩

/-- An ACTIVE record with as many of three entries as a test needs. -/
def heardRadio (n : Nat) : Record :=
  { radio with neighbours :=
      ([⟨212, 2300, 1, 2, 0, false⟩, ⟨87, 1280, 3, 0, 4, false⟩, ⟨305, 1280, 0, 0, 0, false⟩] : List NeighbourEntry).take n }

theorem hyps_MeasureDownlinkWritesEntry_late : (siteInPhase .ordered transitRadio).find 40500 = some (0, transitRadio)
    ∧ Passes (siteInPhase .ordered transitRadio) .measure (.channel 0)
    ∧ (true = true ↔ ∃ (k : Fin 8) (y : Transaction), transitRadio.slot = some k
        ∧ (siteInPhase .ordered transitRadio).handover.slots[k].transaction = some y ∧ y.target = 212)
    ∧ (false = true ↔ ∃ (k : Fin 8) (y : Transaction), radio.slot = some k ∧ (siteWith radio).handover.slots[k].transaction = some y
        ∧ y.target = 140) :=
  ⟨by decide +kernel, passes_of (by decide +kernel), ⟨fun _ => ⟨0, _, rfl, rfl, rfl⟩, fun _ => rfl⟩,
    ⟨fun h => (nomatch h), fun ⟨_, _, h, _⟩ => nomatch h⟩⟩

theorem hyps_MeasureDownlinkWritesEntry :
    (∀ n ∈ [1, 2, 3], Passes (siteWith (heardRadio n)) .measure (.channel 0) ∧ (siteWith (heardRadio n)).find 40500 = some (0, heardRadio n))
    ∧ (site.protection.site = 410 ∧ ∀ (k : Fin 12) (n : Neighbour), site.neighbours[k] = some n → n.site ≠ 999)
    ∧ (site.neighbours[(2 : Fin 12)] = some ⟨140, 2, .up⟩ ∧ site.neighbours[(0 : Fin 12)] = some ⟨212, 0, .up⟩)
    ∧ ((∀ e ∈ (heardRadio 1).neighbours, e.site = 212 → ∀ d ∈ (heardRadio 1).neighbours, d.site = 212 → d = e)
      ∧ (∀ e ∈ (heardRadio 2).neighbours, e.site ≠ 140) ∧ (heardRadio 2).neighbours.length < 3)
    ∧ ((∀ e ∈ (heardRadio 3).neighbours, e.site ≠ 140) ∧ 3 ≤ (heardRadio 3).neighbours.length
      ∧ (∀ e ∈ (heardRadio 3).neighbours, 1280 < e.estimate ∨ (1280 = e.estimate ∧ e.site ≤ 305))
      ∧ 1280 < 16 * (site.scored 98 0).sample ∧ 16 * (site.scored 100 0).sample ≤ 1280) :=
  ⟨fun n hn => by
      simp only [List.mem_cons, List.not_mem_nil, or_false] at hn
      rcases hn with rfl | rfl | rfl <;> exact ⟨passes_of (by decide +kernel), by decide +kernel⟩,
    ⟨rfl, fun k n h => by
      have all : ∀ k : Fin 12, site.neighbours[k].all (fun n => n.site != 999) = true := by decide +kernel
      have := all k
      rw [h] at this
      simpa using this⟩,
    by decide +kernel, by decide, by decide +kernel⟩

theorem hyps_TableLoadsWriteTheirRun : Settled site ∧ Passes site .loadLevelTable .maintenance ∧ Passes site .loadErrorTable .maintenance
    ∧ 53 + (List.replicate 8 (256, 0)).length ≤ 61 ∧ 15 + [256].length ≤ 16 :=
  ⟨settled_of (by decide +kernel), passes_of (by decide +kernel), passes_of (by decide +kernel), by decide, by decide⟩

theorem hyps_SweepTimerExpiryStartsOrMarks :
    (Settled (sweeping (siteWith radio)) ∧ (sweeping (siteWith radio)).resetPinLow = false
      ∧ (sweeping (siteWith radio)).sweep.inFlight = true)
    ∧ (Settled site ∧ site.sweep.inFlight = false ∧ site.visitors.age = [])
    ∧ (Settled (siteWith radio) ∧ (siteWith radio).sweep.inFlight = false ∧ (siteWith radio).visitors.age ≠ []) :=
  ⟨⟨settled_of (by decide +kernel), rfl, rfl⟩, ⟨settled_of (by decide +kernel), rfl, rfl⟩, settled_of (by decide +kernel), rfl,
    by decide +kernel⟩

theorem hyps_VisitTakesNextUnvisitedRecord :
    ∀ s ∈ [sweeping (siteWith radio), { sweeping (siteWith radio) with sweep := { (sweeping (siteWith radio)).sweep with due := true } },
        { sweeping (siteWith radio) with sweep := { (sweeping (siteWith radio)).sweep with unvisited := 2 } }],
      s.resetPinLow = false ∧ s.sweep.inFlight = true ∧ s.sweep.snapshot = some ⟨8, 3, 20, 4, 30, 10, 6⟩ ∧ s.visitors.age = [] ++ 0 :: []
        ∧ s.record? 0 = some radio ∧ radio.stamp ≠ s.sweep.parity ∧ (s.sweep.unvisited = 1 ∨ 2 ≤ s.sweep.unvisited) := by
  decide +kernel

/-- A record unheard for all but the oldest of the loss window of 4. -/
def quietRadio : Record := { radio with history := #v[false, false, true, true, true, true, true, true] }
/-- A record unheard for the whole loss window after its next visit. -/
def silentRadio : Record := { radio with history := #v[false, false, false, true, true, true, true, true] }

theorem hyps_VisitShiftsAgesAndPolls :
    ((sweeping (siteInPhase .asked transitRadio)).nextVisit? = some (0, transitRadio))
    ∧ ((sweeping (siteWith quietRadio)).nextVisit? = some (0, quietRadio)
      ∧ (∃ h ∈ (quietRadio.visited .odd).history.toList.take 4, h = true)
      ∧ (∀ h ∈ (quietRadio.visited .odd).history.toList.take 3, h = false) ∧ quietRadio.serving = some 0)
    ∧ ((sweeping (siteWith radio)).sweep.snapshot = some ⟨8, 3, 20, 4, 30, 10, 6⟩ ∧ (sweeping (siteWith radio)).sweep.inFlight = true) := by
  decide +kernel

theorem hyps_VisitLosesOrReleasesRecord :
    ((sweeping (siteWith silentRadio)).nextVisit? = some (0, silentRadio)
      ∧ ∀ h ∈ (silentRadio.visited .odd).history.toList.take 4, h = false)
    ∧ (∀ age ∈ [28, 29], (sweeping (siteWith { lostRadio with stateAge := age })).nextVisit? = some (0, { lostRadio with stateAge := age }))
    ∧ (∀ age ∈ [8, 9], (sweeping (siteWith { expectedRadio with stateAge := age })).nextVisit?
        = some (0, { expectedRadio with stateAge := age }))
    ∧ (30 ≤ min 255 (29 + 1) ∧ min 255 (28 + 1) < 30 ∧ 10 ≤ min 255 (9 + 1) ∧ min 255 (8 + 1) < 10) := by
  decide +kernel

theorem hyps_WinnerIsBestCandidateBeatingHome :
    (∀ e ∈ (heardRadio 3).neighbours, ∀ d ∈ (heardRadio 3).neighbours, e.site = d.site → e = d)
    ∧ site.winner ⟨8, 3, 20, 4, 30, 10, 6⟩ (heardRadio 3) = some 212
    ∧ site.winner ⟨63, 3, 20, 4, 30, 10, 6⟩ (heardRadio 3) = none := by decide +kernel

theorem hyps_DecisionCountsWithdrawsAndQueues :
    (siteQueued.record? 0 = some queuedRadio ∧ ClassQueuesExact siteQueued ∧ queuedRadio.state = .active
      ∧ siteQueued.winner ⟨8, 3, 20, 4, 30, 10, 6⟩ queuedRadio = queuedRadio.target
      ∧ siteQueued.winner ⟨63, 3, 20, 4, 30, 10, 6⟩ queuedRadio = none)
    ∧ ((siteWith (heardRadio 1)).record? 0 = some (heardRadio 1) ∧ ClassQueuesExact (siteWith (heardRadio 1))
      ∧ (siteWith (heardRadio 1)).winner ⟨8, 3, 20, 4, 30, 10, 6⟩ (heardRadio 1) = some 212 ∧ 3 ≤ min 15 (2 + 1)
      ∧ (siteWith (heardRadio 1)).winner ⟨8, 4, 20, 4, 30, 10, 6⟩ (heardRadio 1) = some 212 ∧ min 15 (2 + 1) < 4) :=
  ⟨⟨by decide +kernel, classQueuesExact_one (r := queuedRadio) rfl (by decide +kernel) (by decide), rfl, by decide +kernel, by decide +kernel⟩,
    by decide +kernel, classQueuesExact_one (r := heardRadio 1) rfl (by decide +kernel) (by decide), by decide +kernel⟩

/-- The queued record at the head, with slot 0 taken and 63 notices in the link queue. -/
def siteGranting : State :=
  let s : State := { siteQueued with handover := { siteQueued.handover with
    slots := siteQueued.handover.slots.set 0 ⟨15, some ⟨.ordered, 9, 212, ⟨1, 0⟩, 80, 100⟩⟩ } }
  s.modifyLink (fun p => { p with queue := List.replicate 63 ⟨.join 5 410, 0⟩ })

theorem hyps_GrantStartsTransaction : siteGranting.ports.link.isOpen = true ∧ siteGranting.ports.link.queue.length < 64
    ∧ siteGranting.ports.link.refreshOwed = false ∧ siteGranting.claims = [] ∧ siteGranting.interest.owedLeaves = []
    ∧ siteGranting.interest.nextJoin?.isNone = true ∧ siteGranting.handover.slots[(1 : Fin 8)].transaction.isNone = true
    ∧ (∀ j : Fin 8, j < 1 → siteGranting.handover.slots[j].transaction.isSome = true)
    ∧ siteGranting.handover.queues[(1 : Fin 4)] = 0 :: [] ∧ (∀ d : Fin 4, d < 1 → siteGranting.handover.queues[d] = [])
    ∧ siteGranting.record? 0 = some queuedRadio ∧ queuedRadio.target = some 212 := by decide +kernel

theorem hyps_ArbiterServesHighestRank :
    (State.reset.ports.link.isOpen = false ∧ 64 ≤ siteQueued.ports.link.queue.length)
    ∧ (site.modifyLink (fun p => { p with refreshOwed := true })).ports.link.refreshOwed = true
    ∧ (let s : State := { siteWith { radio with claimPending := true } with claims := [⟨0, true⟩] }
       s.ports.link.refreshOwed = false ∧ s.claims = ⟨0, true⟩ :: [] ∧ s.record? 0 = some { radio with claimPending := true })
    ∧ (site.ports.link.isOpen = true ∧ site.ports.link.queue.length < 64 ∧ site.claims = []
      ∧ ({ site with interest := { site.interest with owedLeaves := [77] } } : State).interest.owedLeaves = 77 :: [])
    ∧ (let s : State := { site with interest :=
          { site.interest with places := site.interest.places.set 0 (some ⟨301, 1, .joined, false, false⟩) } }
       s.interest.owedLeaves = [] ∧ s.interest.places[(0 : Place)] = some ⟨301, 1, .joined, false, false⟩) := by decide +kernel

theorem hyps_AnswerRefuseEndsTransaction :
    (let s := siteInPhase .asked transitRadio
     Passes s .answer .link ∧ NamesRadio 40500 ∧ s.handover.slots[(0 : Fin 8)] = ⟨0, some ⟨.asked, 0, 212, ⟨14, 0⟩, 80, 100⟩⟩
      ∧ s.record? 0 = some transitRadio ∧ transitRadio.unit = 40500)
    ∧ (Settled site ∧ Passes site .answer .link ∧ site.phase? 7 ≠ some .asked) :=
  ⟨⟨passes_of (by decide +kernel), by decide, by decide +kernel, by decide +kernel, rfl⟩,
    settled_of (by decide +kernel), passes_of (by decide +kernel), by decide +kernel⟩

/-- The ASKED transaction with its serving port in a state and its queue of a length given. -/
def siteAnswering (inCall : Bool) (st : PortState) (n : Nat) : State :=
  (siteInPhase .asked { transitRadio with inCall := inCall }).modifyChannel 0
    (fun p => { p with state := st, queue := List.replicate n (.poll 1) })

theorem hyps_AnswerAcceptMakesMoveAttempt :
    (∀ s ∈ [siteAnswering false .closed 0, siteAnswering true .muted 0, siteAnswering false .opened 32, siteAnswering false .muted 31],
      PassesAll s .answer .link ∧ s.handover.slots[(0 : Fin 8)] = ⟨0, some ⟨.asked, 0, 212, ⟨14, 0⟩, 80, 100⟩⟩
        ∧ (s.record? 0).any (fun r => r.unit == 40500 && r.serving == some 0) = true)
    ∧ (siteAnswering true .muted 0).record? 0 = some { transitRadio with inCall := true } := by decide +kernel

theorem hyps_TimerExpiryFailsTransaction :
    (∀ ph ∈ [Phase.asked, .held .call, .held .room, .ordered], (siteInPhase ph transitRadio).resetPinLow = false
      ∧ (siteInPhase ph transitRadio).phase? 0 = some ph ∧ (siteInPhase ph transitRadio).record? 0 = some transitRadio)
    ∧ (Settled site ∧ ∀ x : Transaction, site.handover.slots[(7 : Fin 8)].transaction = some x → x.phase ∉ [Phase.asked]) :=
  ⟨by decide +kernel, settled_of (by decide +kernel), fun x h => by
    have : site.handover.slots[(7 : Fin 8)].transaction = none := by decide +kernel
    rw [this] at h; cases h⟩

theorem hyps_AskInAnswersByRecordState :
    (Passes site .askIn .link ∧ NamesRadio 1 ∧ site.NamesOtherSite 1 ∧ RadioClass.ofCode 0 = some .command ∧ site.find 1 = none
      ∧ site.visitors.free = 0 :: (List.finRange 384).tail)
    ∧ (Passes (siteFull .active) .askIn .link ∧ Settled (siteFull .active) ∧ (siteFull .active).find 385 = none
      ∧ (siteFull .active).visitors.free = [] ∧ ∀ (i : Index) (r : Record), (siteFull .active).record? i = some r → r.state ≠ .lost)
    ∧ (∀ r ∈ [expectedRadio, lostRadio, radio], PassesAll (siteWith r) .askIn .link ∧ (siteWith r).find 40500 = some (0, r))
    ∧ (Settled (siteInPhase .asked transitRadio) ∧ Passes (siteInPhase .asked transitRadio) .askIn .link
      ∧ (siteInPhase .asked transitRadio).find 40500 = some (0, transitRadio))
    ∧ (Passes (siteFull .lost) .askIn .link ∧ (siteFull .lost).find 385 = none ∧ (siteFull .lost).visitors.free = []
      ∧ (siteFull .lost).visitors.free.length ≤ (siteFull .lost).visitors.reserve
      ∧ (∃ after, (siteFull .lost).visitors.age = [] ++ 0 :: after)
      ∧ (siteFull .lost).record? 0 = some { lostRadio with unit := 1 }) :=
  have hf : site.visitors.free = List.finRange 384 := by unfold site State.reset VisitorTable.reset; with_reducible rfl
  ⟨⟨passes_of (by decide +kernel), by decide, by decide +kernel, rfl, by decide +kernel, by rw [hf, List.finRange_succ]; rfl⟩,
    ⟨passes_of (by decide +kernel), settled_of (by decide +kernel), find_full _ .active _ rfl (by decide), rfl, fun i r h => by
      have : (siteFull .active).record? i = some { lostRadio with state := .active, unit := i.val + 1 } := record?_full .active i
      rw [this] at h; injection h with h; subst h; exact fun e => by cases e⟩,
    by decide +kernel, ⟨settled_of (by decide +kernel), passes_of (by decide +kernel), by decide +kernel⟩,
    passes_of (by decide +kernel), find_full _ .lost _ rfl (by decide), rfl, Nat.zero_le _,
    ⟨(List.finRange 384).tail, (age_full .lost).trans (by rw [List.finRange_succ]; rfl)⟩, record?_full .lost 0⟩

theorem hyps_LinkStatusSetsNeighbour :
    (Settled site ∧ Passes site .linkStatus .link ∧ site.NamesOtherSite 1023 ∧ LinkState.ofCode 2 = some .down
      ∧ site.neighbourSlot? 1023 = none)
    ∧ (site.neighbourSlot? 87 = some 1 ∧ site.neighbours[(1 : Fin 12)] = some ⟨87, 0, .fading⟩ ∧ LinkState.ofCode 0 = some .up)
    ∧ (let s := siteInPhase .asked transitRadio
       Passes s .linkStatus .link ∧ s.neighbourSlot? 212 = some 0 ∧ s.neighbours[(0 : Fin 12)] = some ⟨212, 0, .up⟩ ∧ SlotsExact s
        ∧ ClassQueuesExact s) :=
  ⟨⟨settled_of (by decide +kernel), passes_of (by decide +kernel), by decide +kernel, rfl, by decide +kernel⟩, by decide +kernel,
    passes_of (by decide +kernel), by decide +kernel, by decide +kernel, slotsExact_phase _, classQueuesExact_phase _⟩

theorem hyps_SetNeighbourWritesSlot :
    (Passes site .setNeighbour .maintenance ∧ Settled site ∧ site.NamesOtherSite 305 ∧ site.neighbours[(11 : Fin 12)] = none
      ∧ -32 = max (-32) (min 31 (-33)))
    ∧ (site.neighbours[(0 : Fin 12)] = some ⟨212, 0, .up⟩ ∧ site.NamesOtherSite 212)
    ∧ (∀ site' ∈ [305, 212], ∀ j : Fin 12, site.neighbours[j].any (fun m => m.site == site') = true → j = 0)
    ∧ (let s := siteInPhase .asked transitRadio
       Passes s .setNeighbour .maintenance ∧ s.neighbours[(0 : Fin 12)] = some ⟨212, 0, .up⟩ ∧ SlotsExact s ∧ ClassQueuesExact s) :=
  ⟨⟨passes_of (by decide +kernel), settled_of (by decide +kernel), by decide +kernel, by decide +kernel, by decide⟩, by decide +kernel,
    by decide +kernel, passes_of (by decide +kernel), by decide +kernel, slotsExact_phase _, classQueuesExact_phase _⟩

theorem hyps_ProfileRequestsWriteStore : Settled site ∧ Passes site .setProfileField .maintenance ∧ ProfileName.ofCode 1 = some .incident
    ∧ Passes site .declareIncident .maintenance ∧ Passes site .standDown .maintenance :=
  ⟨settled_of (by decide +kernel), passes_of (by decide +kernel), rfl, passes_of (by decide +kernel), passes_of (by decide +kernel)⟩

theorem hyps_LimitsAndSiteAreWritten : (Settled site ∧ Passes site .setLimits .maintenance ∧ Threshold.ofCode 3 = some .full)
    ∧ (Passes site .setSite .maintenance ∧ site.visitors.age = [] ∧ site.neighbours[(0 : Fin 12)] = some ⟨212, 0, .up⟩
      ∧ ∀ j : Fin 12, site.neighbours[j].all (fun n => n.site != 1023) = true)
    ∧ (Settled (siteWith radio) ∧ Passes (siteWith radio) .setSite .maintenance ∧ (siteWith radio).visitors.age ≠ []) :=
  ⟨⟨settled_of (by decide +kernel), passes_of (by decide +kernel), rfl⟩,
    ⟨passes_of (by decide +kernel), rfl, by decide +kernel, by decide +kernel⟩,
    settled_of (by decide +kernel), passes_of (by decide +kernel), by decide +kernel⟩

theorem hyps_LocksAreSetAndCleared : Settled site ∧ Passes site .lock .maintenance ∧ Passes site .unlock .maintenance
    ∧ Passes site .setIncidentLocks .maintenance ∧ LockGroups.ofByte 0xF0 = ⟨false, false, false, false⟩
    ∧ LockGroups.ofByte 0x0F ≠ ⟨false, false, false, false⟩
    ∧ (∃ effective : LockGroups → LockGroups → LockGroups, ∀ own marks : LockGroups, effective own marks =
      ⟨own.tables || (site.profiles.incident && marks.tables), own.profiles || (site.profiles.incident && marks.profiles),
        own.neighbours || (site.profiles.incident && marks.neighbours), own.limits || (site.profiles.incident && marks.limits)⟩) :=
  ⟨settled_of (by decide +kernel), passes_of (by decide +kernel), passes_of (by decide +kernel), passes_of (by decide +kernel), by decide,
    by decide, _, fun _ _ => rfl⟩

theorem hyps_SiteResetReleasesEverything : (Passes (siteWith radio) .siteReset .maintenance ∧ (siteWith radio).profiles.incident = false)
    ∧ Passes { site with profiles := { site.profiles with incident := true, selection := .incident } } .siteReset .maintenance :=
  ⟨⟨passes_of (by decide +kernel), rfl⟩, passes_of (by decide +kernel)⟩

theorem hyps_ReadsChangeNothing :
    (Settled (siteWith radio) ∧ Passes (siteWith radio) .readRecord .maintenance ∧ (siteWith radio).find 40500 = some (0, radio)
      ∧ radio.slot = none ∧ Passes (siteWith radio) .siteStatus .maintenance)
    ∧ (Settled (siteInPhase .asked transitRadio) ∧ Passes (siteInPhase .asked transitRadio) .readRecord .maintenance
      ∧ (siteInPhase .asked transitRadio).find 40500 = some (0, transitRadio)
      ∧ (siteInPhase .asked transitRadio).handover.slots[(0 : Fin 8)].transaction = some ⟨.asked, 0, 212, ⟨14, 0⟩, 80, 100⟩) :=
  ⟨⟨settled_of (by decide +kernel), passes_of (by decide +kernel), by decide +kernel, rfl, passes_of (by decide +kernel)⟩,
    settled_of (by decide +kernel), passes_of (by decide +kernel), by decide +kernel, by decide +kernel⟩

theorem hyps_StepKeepsSettled : ∃ t, Settled (siteWith radio) ∧ step (siteWith radio) = .next t ∧ t.resetPinLow = false :=
  ⟨_, settled_of (by decide +kernel), rfl, rfl⟩

/-- Every place of a table of one record, when the record and an empty place pass a test. -/
theorem all_one {r : Record} {P : Option Record → Prop} (hr : P (some r)) (hn : P none) : ∀ o ∈ (oneRecord r).records.toList, P o := by
  intro o ho
  obtain ⟨i, hi, rfl⟩ := List.getElem_of_mem ho
  have hi' : i < 384 := by rwa [Vector.length_toList] at hi
  have e := record?_one r ⟨i, hi'⟩
  rw [Vector.getElem_toList]
  simp only [Fin.getElem_fin] at e
  rw [e]
  split
  · exact hr
  · exact hn

theorem sweepExact_site (r : Record) (h : r.stamp = .even) : SweepExact (siteWith r) where
  count := (List.countP_eq_zero.2 (all_one (P := fun o => ¬unvisitedBy .even o = true) (by simp [unvisitedBy, h])
    Bool.false_ne_true)).symm
  idle := fun _ => ⟨rfl, rfl, rfl⟩
  flight := fun h => absurd h Bool.false_ne_true

theorem hyps_StepKeepsTableAndSweep : ∃ t, TableSound (siteWith radio).visitors ∧ SweepExact (siteWith radio) ∧ step (siteWith radio) = .next t :=
  ⟨_, tableSound_one _, sweepExact_site _ rfl, rfl⟩

theorem hyps_StepKeepsHandoverLists : ∃ t, TableSound (siteInPhase .asked transitRadio).visitors ∧ SlotsExact (siteInPhase .asked transitRadio)
    ∧ ClassQueuesExact (siteInPhase .asked transitRadio) ∧ ClaimsExact (siteInPhase .asked transitRadio)
    ∧ step (siteInPhase .asked transitRadio) = .next t :=
  ⟨_, tableSound_one _, slotsExact_phase _, classQueuesExact_phase _, claimsExact_one (r := transitRadio) rfl rfl rfl, rfl⟩

theorem neighbours_site (k : Fin 12) (n : Neighbour) (h : (siteWith radio).neighbours[k] = some n) :
    k = 0 ∧ n = ⟨212, 0, .up⟩ ∨ k = 1 ∧ n = ⟨87, 0, .fading⟩ ∨ k = 2 ∧ n = ⟨140, 2, .up⟩ := by
  have all : ∀ k : Fin 12, (siteWith radio).neighbours[k] = none ∨ (k = 0 ∧ (siteWith radio).neighbours[k] = some ⟨212, 0, .up⟩)
      ∨ (k = 1 ∧ (siteWith radio).neighbours[k] = some ⟨87, 0, .fading⟩)
      ∨ (k = 2 ∧ (siteWith radio).neighbours[k] = some ⟨140, 2, .up⟩) := by decide +kernel
  rcases all k with e | ⟨a, e⟩ | ⟨a, e⟩ | ⟨a, e⟩ <;> rw [h] at e <;> simp_all

theorem neighboursSound_site : NeighboursSound (siteWith radio) where
  inRange := fun k n h => by rcases neighbours_site k n h with ⟨_, rfl⟩ | ⟨_, rfl⟩ | ⟨_, rfl⟩ <;> decide
  distinct := fun j k m n hm hn e => by
    rcases neighbours_site j m hm with ⟨rfl, rfl⟩ | ⟨rfl, rfl⟩ | ⟨rfl, rfl⟩ <;>
      rcases neighbours_site k n hn with ⟨rfl, rfl⟩ | ⟨rfl, rfl⟩ | ⟨rfl, rfl⟩ <;> simp_all

/-- Of UnitOutOfRangeIsRefused, the clause about every request: each cause at the end of its range. -/
theorem hyps_UnitOutOfRangeIsRefused_any : Settled (siteWith radio) ∧ NeighboursSound (siteWith radio)
    ∧ (∀ r ∈ [Request.register ⟨1, 4, 15, false, 0, 0, []⟩, .register ⟨1, 3, 16, false, 0, 0, []⟩, .measure ⟨1, 2, 1, 0, 0⟩,
        .measure ⟨1, 1, 0, 0, 0⟩, .measure ⟨1, 1, 1024, 0, 0⟩, .callStart 16777215, .callEnd 0],
      r.wf = true ∧ PassesAll (siteWith radio) r.kind (.channel 0) ∧ r.kind ∈ countedKinds)
    ∧ (∀ r ∈ [Request.claimIn ⟨1, 410, 15, false⟩, .claimIn ⟨1, 1023, 16, false⟩, .askIn ⟨1, 0, 3, 15, []⟩, .askIn ⟨1, 1024, 0, 0, []⟩,
        .askIn ⟨1, 1, 4, 0, []⟩, .answer ⟨8, 15, 1, 1, 0⟩, .answer ⟨7, 16, 1, 1, 1⟩, .answer ⟨7, 0, 1, 1, 2⟩, .linkStatus 410 0,
        .linkStatus 1023 3],
      r.wf = true ∧ PassesAll (siteWith radio) r.kind .link ∧ r.kind ∉ countedKinds)
    ∧ (∀ r ∈ [Request.setProfileField 2 1 0, .setProfileField 1 0 0, .setProfileField 0 16 0, .loadLevelTable 0 [],
        .loadLevelTable 61 [(0, 0)], .loadLevelTable 60 [(0, 0), (0, 0)], .loadErrorTable 0 (List.replicate 9 0), .loadErrorTable 15 [0, 0],
        .setNeighbour 12 0 0, .setNeighbour 0 1024 0, .setNeighbour 0 410 0, .setNeighbour 1 212 0, .setLimits ⟨none, none, none⟩,
        .setLimits ⟨none, none, some 4⟩, .setSite 0, .setSite 87, .lock 0xF0, .unlock 0, .unmute 0, .unmute 5, .forceClose 6,
        .readRecord 16777215],
      r.wf = true ∧ PassesAll (siteWith radio) r.kind .maintenance ∧ r.kind ∉ countedKinds)
    ∧ ((siteWith radio).outOfRange (.register ⟨1, 4, 15, false, 0, 0, []⟩) ∧ (siteWith radio).outOfRange (.measure ⟨1, 2, 1, 0, 0⟩)
      ∧ (siteWith radio).outOfRange (.measure ⟨1, 1, 1024, 0, 0⟩) ∧ (siteWith radio).outOfRange (.claimIn ⟨1, 410, 15, false⟩)
      ∧ (siteWith radio).outOfRange (.answer ⟨7, 0, 1, 1, 2⟩) ∧ (siteWith radio).outOfRange (.linkStatus 1023 3)
      ∧ (siteWith radio).outOfRange (.loadLevelTable 60 [(0, 0), (0, 0)]) ∧ (siteWith radio).outOfRange (.setNeighbour 1 212 0)
      ∧ (siteWith radio).outOfRange (.setLimits ⟨none, none, some 4⟩) ∧ (siteWith radio).outOfRange (.setSite 87)
      ∧ (siteWith radio).outOfRange (.lock 0xF0) ∧ (siteWith radio).outOfRange (.forceClose 6)) :=
  ⟨settled_of (by decide +kernel), neighboursSound_site, by decide +kernel, by decide +kernel, by decide +kernel,
    .inr (.inl (by decide)), .inr (.inl (by decide)), .inr (.inr ⟨rfl, .inr (by decide)⟩), .inr (.inr (.inl rfl)),
    .inr (.inr (.inr (.inr (by decide)))), .inr (.inr (by decide)), .inr (.inr (.inr (by decide))),
    .inr (.inr (.inr ⟨0, ⟨212, 0, .up⟩, by decide +kernel, rfl, by decide⟩)), .inr ⟨4, rfl, by decide⟩,
    .inr ⟨1, ⟨87, 0, .fading⟩, by decide +kernel, rfl⟩, fun b hb => by interval_cases b <;> decide, .inr (by decide)⟩

theorem hyps_StepKeepsRanges : ∃ t, RangesSound (siteWith radio) ∧ step (siteWith radio) = .next t :=
  ⟨_,
    { queues := ⟨by decide +kernel, by decide +kernel, List.nodup_nil⟩
      scores :=
        { profiles := ⟨by unfold Profile.inRange; decide +kernel, by unfold Profile.inRange; decide +kernel, rfl⟩
          levels := by decide +kernel
          penalties := by decide +kernel
          home := forall_record_one (r := radio) (P := fun r => ∀ e ∈ r.home, e ≤ 4080) rfl (by decide)
          entries := forall_record_one (r := radio) (P := fun r => r.neighbours.length ≤ Config.neighbourEntries
            ∧ ∀ e ∈ r.neighbours, e.inRange) rfl ⟨by decide, fun e h => absurd h List.not_mem_nil⟩ }
      neighbours := neighboursSound_site
      records :=
        { inRange := forall_record_one (r := radio) (P := Record.inRange) rfl
            ⟨by decide, by decide, by decide, by decide, by decide, by decide⟩
          distinct := forall_record_one (r := radio) (P := fun r => (r.neighbours.map NeighbourEntry.site).Nodup) rfl List.nodup_nil
          inTable := forall_record_one (r := radio) (P := fun r => ∀ e ∈ r.neighbours,
            ∃ (k : Fin 12) (n : Neighbour), (siteWith radio).neighbours[k] = some n ∧ n.site = e.site) rfl
            (fun e h => absurd h List.not_mem_nil) }
      counts := ⟨by decide +kernel, by decide, by decide +kernel, by decide +kernel, by decide +kernel, by decide⟩ }, rfl⟩

theorem places_site (k : Place) (e : MapEntry) (h : (siteWith radio).interest.places[k] = some e) :
    k = 0 ∧ e = ⟨301, 1, .joined, true, false⟩ := by
  by_cases hk : k = 0
  · subst hk
    have : (siteWith radio).interest.places[(0 : Place)] = some ⟨301, 1, .joined, true, false⟩ := by decide +kernel
    rw [this] at h; injection h with h; exact ⟨rfl, h.symm⟩
  · have : (0 : Nat) ≠ k.val := fun e => hk (Fin.ext e.symm)
    simp [siteWith, site, State.reset, InterestMap.reset, this] at h

theorem hyps_StepKeepsEngineSound : ∃ t, EngineSound (siteWith radio) ∧ step (siteWith radio) = .next t :=
  ⟨_,
    { table := tableSound_one _
      sweep := sweepExact_site _ rfl
      slots := slotsExact_free _ rfl (by decide)
      classQueues := classQueuesExact_one (r := radio) rfl (by decide +kernel) (by decide)
      claims := claimsExact_one (r := radio) rfl rfl rfl
      fields := forall_record_one (r := radio) (P := Record.fieldsByState) rfl
        ⟨rfl, rfl, rfl, rfl, rfl, fun _ h => nomatch h⟩
      talkgroups := forall_record_one (r := radio) (P := fun r => r.talkgroups.Nodup) rfl (by decide)
      interest :=
        { distinct := fun j k d e hd he _ => (places_site j d hd).1.trans (places_site k e he).1.symm
          count := fun k e h => by
            obtain ⟨_, rfl⟩ := places_site k e h
            exact ⟨by decide +kernel, by decide⟩
          mapped := forall_record_one (r := radio) (P := fun r => r.counted = true → ∀ tg ∈ r.talkgroups,
            ((siteWith radio).interest.place? tg).isSome = true) rfl (by decide +kernel)
          leavingNodup := List.nodup_nil
          leaving_iff := fun k => by
            refine ⟨fun h => absurd h List.not_mem_nil, fun h => ?_⟩
            obtain ⟨e, he, hl⟩ := (Option.any_eq_true _ _).1 h
            obtain ⟨_, rfl⟩ := places_site k e he
            exact absurd hl (by decide) }
      owedLeaves :=
        { nodup := List.nodup_nil
          capacity := by decide +kernel
          marks := fun k e h => by
            obtain ⟨_, rfl⟩ := places_site k e h
            exact ⟨fun h => absurd h Bool.false_ne_true, fun h => absurd h List.not_mem_nil⟩
          announced := fun _ _ _ _ => List.not_mem_nil }
      island := ⟨fun h => absurd h (by decide), fun h => absurd h (by decide), fun h => absurd h (by decide), fun h => absurd h (by decide)⟩ },
    rfl⟩

end Sys2Proof.Tests
end

section
/-! PROOF. Release as one change of the state (01 R17): what it does to each block that names the record. -/

namespace Sys2Proof.Machine

/-- What release makes of a record is lost with the record. -/
@[simp] theorem VisitorTable.vacate_modify (t : VisitorTable) (i : Index) (f : Record → Record) (unit : Nat) :
    (t.modify i f).vacate i unit = t.vacate i unit := by
  simp [VisitorTable.modify, VisitorTable.vacate]

/-- The talkgroups of ACTIVE and TRANSIT records are counted (R119). -/
theorem Record.counted_iff (r : Record) : r.counted = true ↔ r.state = .active ∨ r.state = .transit := by
  simp [Record.counted]

theorem SweepUnit.forget_eq (w : SweepUnit) (stamp : Parity) :
    w.forget stamp = { w with unvisited := if stamp = w.parity then w.unvisited else w.unvisited - 1 } := by
  unfold SweepUnit.forget
  split <;> rfl

/-- The end of a record's transaction touches the handover unit only (R18). -/
theorem State.endTransaction_eq (s : State) (r : Record) :
    s.endTransaction r = { s with handover := r.slot.elim s.handover s.handover.freeSlot } := by
  unfold State.endTransaction
  cases r.slot <;> rfl

/-- Everything release does but the append to the free list, block by block (R14, R17). -/
theorem State.detach_eq {s : State} {i : Index} {r : Record} (h : s.record? i = some r) :
    s.detach i = { s with
      visitors := s.visitors.vacate i r.unit
      claims := s.claims.filter (fun e => e.index != i)
      handover := r.slot.elim (s.handover.dequeue i) (s.handover.dequeue i).freeSlot
      interest := if r.counted then s.interest.decrementAll s.selected.leaveHold r.talkgroups else s.interest
      sweep := s.sweep.forget r.stamp } := by
  have hv : ((s.withdraw i).dropClaim i).visitors.vacate i r.unit = s.visitors.vacate i r.unit := by
    simp [State.dropClaim, State.withdraw, State.modifyRecord]
  unfold State.detach
  rw [h, ← hv]
  simp only [State.endTransaction_eq]
  cases r.counted <;> rfl

/-- A release is a detachment and an append to the free list (R17). -/
theorem State.release_eq {s : State} {i : Index} {r : Record} (h : s.record? i = some r) :
    s.release i = { s.detach i with
      visitors := { (s.detach i).visitors with free := (s.detach i).visitors.free ++ [i] } } := by
  unfold State.release
  rw [h]

/-- Settles O23: each block of the released state is the one that R17 describes. -/
theorem releaseTakesRecordOutOfEveryList : Obligations.ReleaseTakesRecordOutOfEveryList := by
  intro s i r h
  have hslot : r.slot.elim (s.handover.dequeue i) (s.handover.dequeue i).freeSlot =
      { queues := s.handover.queues.map (fun q => q.filter (fun j => j != i))
        slots := match r.slot with
          | none => s.handover.slots
          | some k => s.handover.slots.set k ⟨s.handover.slots[k].generation, none⟩ } := by
    cases r.slot <;> rfl
  rw [State.release_eq h, State.detach_eq h, hslot, SweepUnit.forget_eq]
  simp only [Record.counted_iff]
  rfl

end Sys2Proof.Machine
end

section
/-! PROOF. SITE RESET as one step (01 R24, 10 R185, R186): what it leaves to grant, and the state it answers with. -/

namespace Sys2Proof.Machine

/-- An empty interest map owes no JOIN (R127). -/
theorem InterestMap.nextJoin?_reset : InterestMap.reset.nextJoin? = none := by
  have hn : firstPlace? InterestMap.reset.places (fun p => p.any MapEntry.owesJoin) = none :=
    firstPlace?_eq_none.mpr (fun k => by simp [InterestMap.reset])
  simp [InterestMap.nextJoin?, hn]

/-- With every class queue empty there is no record to grant (R94). -/
theorem State.nextGrant?_of_empty {s : State} (h : s.handover.queues = Vector.replicate 4 []) : s.nextGrant? = none := by
  have hq : s.handover.nextQueued? = none := by simp [HandoverUnit.nextQueued?, h]
  simp [State.nextGrant?, hq]

/-- After SITE RESET a REFRESH is all that can be owed (R185). -/
theorem State.grantPlace_siteReset (s : State) :
    s.siteReset.grantPlace = if s.ports.link.isOpen then some s.siteReset.postRefresh else none := by
  cases ho : s.ports.link.isOpen <;> simp [State.grantPlace, State.linkHasRoom, State.siteReset, Config.linkQueue, ho]

/-- With the REFRESH posted nothing more is owed. -/
theorem State.grantPlace_siteReset_postRefresh (s : State) : s.siteReset.postRefresh.grantPlace = none :=
  State.grantPlace_eq_none.mpr (fun _ => ⟨rfl, rfl, rfl, InterestMap.nextJoin?_reset, State.nextGrant?_of_empty rfl⟩)

/-- The grants after SITE RESET: the REFRESH when the link port is OPEN (R144, R185). -/
theorem State.runArbiter_siteReset (s : State) :
    s.siteReset.runArbiter = if s.ports.link.isOpen then s.siteReset.postRefresh else s.siteReset := by
  have hg := s.grantPlace_siteReset
  refine (GrantRun.eq_runArbiter ?_).symm
  split <;> rename_i ho
  · rw [if_pos ho] at hg
    exact .place hg (.done s.grantPlace_siteReset_postRefresh)
  · rw [if_neg ho] at hg
    exact .done hg

/-- No sweep is in flight after SITE RESET, so its step ends with the grants and the attention lines (R185). -/
theorem State.settle_siteReset (s : State) :
    s.siteReset.settle = (if s.ports.link.isOpen then s.siteReset.postRefresh else s.siteReset).refreshLines := by
  have hn : s.siteReset.checkSweep = s.siteReset := State.checkSweep_eq_self (fun h => Bool.false_ne_true h.1)
  rw [State.settle, hn, State.runArbiter_siteReset]

/-- A SITE RESET that passes its checks, incident lock included (R158, R186). -/
theorem exec_siteReset {s : State} {force : Bool} (h : Passes s .siteReset .maintenance)
    (unlocked : s.profiles.incident = false ∨ force = true) :
    exec (.siteReset .maintenance force) s = .next
      ((if s.ports.link.isOpen then s.siteReset.postRefresh else s.siteReset).reply .maintenance .siteReset
        (siteResetReply force s)) := by
  have hl : (s.profiles.incident && !force) = false := by
    rcases unlocked with hi | hf
    · simp [hi]
    · simp [hf]
  have hr : exec (.siteReset .maintenance force) s = .next
      (Served.finish (s.siteReset, fun _ => siteResetReply force s) Kind.siteReset.code .maintenance) := by
    rw [← request_passes (own := fun s => (s.siteReset, fun _ => siteResetReply force s)) h rfl, ← hl]
    rfl
  rw [hr, Served.finish, State.settle_siteReset, State.reply]

/-- Settles O53: the state of exec_siteReset, written out with the link port OPEN and with it CLOSED. -/
theorem siteResetReleasesEverything : Obligations.SiteResetReleasesEverything := by
  intro s force h unlocked
  rw [exec_siteReset h unlocked]
  cases ho : s.ports.link.isOpen
  all_goals
    simp only [State.postRefresh, State.postLink, State.modifyLink, State.siteReset, siteResetReply, ho]
    rfl

end Sys2Proof.Machine
end

section
/-! PROOF. Scoring a measurement (02 R28, R29, R31, R34, R35): its level index, its sample, its weight and its ADJUSTED mark. -/

namespace Sys2Proof.Machine

/-- A clamp leaves just the values of its range alone (R28). -/
theorem clamp_eq_self_iff {lo hi n : Nat} (h : lo ≤ hi) : clamp lo hi n = n ↔ lo ≤ n ∧ n ≤ hi := by
  unfold clamp
  omega

/-- The clamp keeps the index inside the level table, so the table's size does not reduce it (R29). -/
theorem levelIndex_val (a : Nat) : (levelIndex a).val = (140 - max 20 (min 140 a)) / 2 := by
  have hlt : (140 - clamp 20 140 a) / 2 < 61 := by
    unfold clamp
    omega
  exact Nat.mod_eq_of_lt hlt

/-- A grade has no lower end to be clamped to (R28). -/
theorem gradeIndex_eq (g : Nat) : gradeIndex g = Fin.ofNat 16 (min 15 g) :=
  congrArg (Fin.ofNat 16) (Nat.zero_max (min 15 g))

/-- The floor of R34: the difference of natural numbers is the difference of integers, or 0 when that is negative. -/
theorem ScoringUnit.score_sample (u : ScoringUnit) (smoothing a g : Nat) :
    ((u.score smoothing a g).sample : Int) =
      max 0 ((u.levels[levelIndex a].score : Int) - u.penalties[gradeIndex g]) := by
  simp only [ScoringUnit.score]
  omega

/-- ADJUSTED marks a clamp that changed its value (R28). -/
theorem ScoringUnit.score_adjusted_iff (u : ScoringUnit) (smoothing a g : Nat) :
    (u.score smoothing a g).adjusted = true ↔ (a < 20 ∨ 140 < a ∨ 15 < g) := by
  have ha : clamp 20 140 a = a ↔ 20 ≤ a ∧ a ≤ 140 := clamp_eq_self_iff (by decide)
  have hg : clamp 0 15 g = g ↔ 0 ≤ g ∧ g ≤ 15 := clamp_eq_self_iff (by decide)
  simp only [ScoringUnit.score, Bool.or_eq_true, bne_iff_ne, ne_eq, ha, hg]
  omega

/-- Settles O31: a measurement is scored by the tables and the smoothing weight that stand in the state. -/
theorem sampleAndWeightOfMeasurement : Obligations.SampleAndWeightOfMeasurement := by
  intro s a g
  have hi := levelIndex_val a
  have hx := s.scoring.score_sample s.selected.smoothing a g
  simp only [gradeIndex_eq] at hx
  exact ⟨hi, by omega, hx, rfl, s.scoring.score_adjusted_iff s.selected.smoothing a g⟩

end Sys2Proof.Machine
end

section
/-! PROOF. The update of a present estimate (02 R38): the truncated step lies between 0 and the difference. -/

namespace Sys2Proof.Machine

/-- The step of a difference that is not negative (R38). -/
theorem tdiv_step_of_nonneg {d : Int} {w : Nat} (hd : 0 ≤ d) (hw : w ≤ 16) :
    0 ≤ (d * w).tdiv 16 ∧ (d * w).tdiv 16 ≤ d := by
  have hlow : 0 ≤ d * w := Int.mul_nonneg hd (Int.natCast_nonneg w)
  have hhigh : d * w ≤ d * 16 := Int.mul_le_mul_of_nonneg_left (by omega) hd
  rw [Int.tdiv_eq_ediv_of_nonneg hlow]
  omega

/-- Truncation is symmetric, so a negative difference steps as its opposite does (R38). -/
theorem tdiv_step_between (d : Int) {w : Nat} (hw : w ≤ 16) :
    min 0 d ≤ (d * w).tdiv 16 ∧ (d * w).tdiv 16 ≤ max 0 d := by
  rcases Int.le_total 0 d with hd | hd
  · have hstep := tdiv_step_of_nonneg hd hw
    omega
  · have hstep := tdiv_step_of_nonneg (Int.neg_nonneg.mpr hd) hw
    rw [Int.neg_mul, Int.neg_tdiv] at hstep
    omega

/-- The sum in smoothed is never negative, so nothing is lost when it is read as a natural number (R38). -/
theorem smoothed_eq (e x : Nat) {w : Nat} (hw : w ≤ 16) :
    ((smoothed e x w : Nat) : Int) = e + (((16 * x : Int) - e) * w).tdiv 16 := by
  have hstep := tdiv_step_between ((16 * x : Int) - e) hw
  unfold smoothed
  push_cast
  omega

/-- A smoothed estimate lies between the old estimate and the sample's (R38). -/
theorem smoothed_between (e x : Nat) {w : Nat} (hw : w ≤ 16) :
    min e (16 * x) ≤ smoothed e x w ∧ smoothed e x w ≤ max e (16 * x) := by
  have heq := smoothed_eq e x hw
  have hstep := tdiv_step_between ((16 * x : Int) - e) hw
  omega

/-- At weight 16 the step is the whole difference (R38). -/
theorem smoothed_weight_sixteen (e x : Nat) : smoothed e x 16 = 16 * x := by
  have heq := smoothed_eq e x (le_refl 16)
  have hstep : (((16 * x : Int) - e) * 16).tdiv 16 = 16 * x - e := Int.mul_tdiv_cancel _ (by decide)
  push_cast at heq
  omega

/-- Settles O32: the step lies between 0 and the difference, and both estimates lie within 0 to 4080. -/
theorem estimateMovesByTruncatedStep : Obligations.EstimateMovesByTruncatedStep := by
  intro e x w he hx _ hw
  obtain ⟨hlow, hhigh⟩ := smoothed_between e x hw
  exact ⟨by omega, by omega, smoothed_eq e x hw, hlow, hhigh, by omega, smoothed_weight_sixteen e x⟩

end Sys2Proof.Machine
end

section
/-! PROOF. The comparison of roam sequences (03 R45). -/

namespace Sys2Proof.Machine

/-- The comparison of R45 by the difference of the sequences as integers. -/
theorem relation_eq (stored received : Nat) (fresh : Bool) :
    relation stored received fresh =
      if fresh then .newer
      else if ((received : Int) - stored) % 16 = 0 then .equal
      else if ((received : Int) - stored) % 16 ≤ 7 then .newer
      else .notNewer := by
  have hzero : (received + 16 - stored % 16) % 16 = 0 ↔ ((received : Int) - stored) % 16 = 0 := by omega
  have hseven : (received + 16 - stored % 16) % 16 ≤ 7 ↔ ((received : Int) - stored) % 16 ≤ 7 := by omega
  simp only [relation, hzero, hseven]

/-- Settles O30: each row of R45 is one branch of relation_eq. -/
theorem sequenceRelationIsModulo16 : Obligations.SequenceRelationIsModulo16 := by
  intro p q _ _
  simp only [relation_eq, Bool.false_eq_true, if_true, if_false]
  refine ⟨trivial, fun hzero => if_pos hzero, fun hlow hhigh => ?_, fun hlow => ?_⟩
  · rw [if_neg (by omega), if_pos hhigh]
  · rw [if_neg (by omega), if_neg (by omega)]

end Sys2Proof.Machine
end

section
/-! PROOF. CLAIM IN (03 R60 to R64): which records yield, and the step that releases the record or posts the COUNTERCLAIM. -/

namespace Sys2Proof.Machine

/-! ## What the step rests on -/

/-- The record that release takes is FREE (R17). -/
theorem State.record?_release_self {s : State} {i : Index} {r : Record} (h : s.record? i = some r) :
    (s.release i).record? i = none := by
  rw [releaseTakesRecordOutOfEveryList s i r h]
  simp [State.record?]

/-- An offered notice takes a place of the link queue, so a state with nothing owed still has nothing owed (R145, R147). -/
theorem State.grantPlace_offered {s : State} (h : s.grantPlace = none) (n : LinkNotice) : (s.offered n).grantPlace = none := by
  unfold State.offered
  split
  next hroom =>
    have hs : s.linkHasRoom = true := by simpa [State.linkHasRoom] using hroom
    exact State.grantPlace_eq_none.mpr (fun _ => (State.grantPlace_eq_none (s := s)).mp h hs)
  next => exact h

/-- After an offer in a settled state only the attention lines are left to set (R147, R176). -/
theorem Settled.settle_offered {s : State} (h : Settled s) (n : LinkNotice) :
    (s.offered n).settle = (s.offered n).refreshLines := by
  have hsweep : (s.offered n).sweep = s.sweep := by rw [State.offered_eq]
  rw [State.settle, State.checkSweep_eq_self (by rw [hsweep]; exact h.sweep), State.runArbiter,
    State.grantPlaces_eq_self (State.grantPlace_offered h.arbiter n)]

/-! ## Which records yield -/

/-- A record yields for its state, to a newer claim, or in TRANSIT to the claim of its target (R61 to R63). -/
theorem State.yields_iff (s : State) (r : Record) (f : ClaimFields) :
    s.yields r f = true ↔ r.state = .expected ∨ r.state = .lost ∨ relation r.seq f.seq f.fresh = .newer
      ∨ (r.state = .transit ∧ s.targetOf? r = some f.site) := by
  have htarget : (r.slot.any (fun k => s.handover.slots[k].transaction.any (fun t => t.target == f.site))) = true ↔
      s.targetOf? r = some f.site := by
    simp [State.targetOf?_eq_some, Option.any_eq_true]
  cases hstate : r.state with
  | expected => simp [State.yields, hstate]
  | lost => simp [State.yields, hstate]
  | active => simp [State.yields, hstate]
  | transit => simp only [State.yields, hstate, Bool.or_eq_true, htarget]; simp

/-! ## The service and its step -/

theorem claimInService_absent {f : ClaimFields} {s : State} (h : s.find f.unit = none) :
    claimInService f s = (s, fun _ => .done false (some .none) (.claimSettled none none none)) := by
  simp [claimInService, h]

theorem claimInService_yielded {f : ClaimFields} {s : State} {i : Index} {r : Record} (h : s.find f.unit = some (i, r))
    (hy : s.yields r f = true) :
    claimInService f s = (s.release i, fun _ => .done false (some .yielded) (.claimSettled (some r.state) none none)) := by
  simp [claimInService, h, hy]

theorem claimInService_kept {f : ClaimFields} {s : State} {i : Index} {r : Record} (h : s.find f.unit = some (i, r))
    (hy : ¬ s.yields r f = true) :
    claimInService f s = (s.offered (.counterclaim r.unit s.protection.site r.seq f.site),
      fun _ => .done false (some .kept) (.claimSettled (some r.state) (some r.seq) (some s.fateOfOffer))) := by
  simp [claimInService, h, hy, State.offer_eq, counterclaimNotice]

/-- The RANGE test of CLAIM IN (R60). -/
theorem ClaimFields.inRange_iff (f : ClaimFields) (s : State) :
    ClaimFields.inRange f s.protection.site = true ↔ NamesRadio f.unit ∧ s.NamesOtherSite f.site ∧ f.seq ≤ 15 := by
  simp [ClaimFields.inRange, unitInRange, siteInRange, fitsSequence, Config.maxUnit, Config.maxSite, and_assoc]

/-- A CLAIM IN that passes its checks and its RANGE test is its service and the end of the step (R60, R168). -/
theorem exec_claimIn {f : ClaimFields} {s : State} (h : Passes s .claimIn .link)
    (hf : ClaimFields.inRange f s.protection.site = true) :
    exec (.claimIn .link f) s = .next ((claimInService f s).finish Kind.claimIn.code .link) := by
  have hexec : exec (.claimIn .link f) s =
      request .claimIn .link true false (ClaimFields.inRange f s.protection.site) (claimInService f) s := rfl
  rw [hexec, hf, request_passes h rfl]

/-! ## The three settlements -/

/-- A claim on a radio that no record holds (R61). -/
theorem exec_claimIn_absent {f : ClaimFields} {s : State} (h : Passes s .claimIn .link)
    (hf : ClaimFields.inRange f s.protection.site = true) (settled : Settled s) (absent : s.find f.unit = none) :
    exec (.claimIn .link f) s =
      .next (s.reply .link .claimIn (.done false (some .none) (.claimSettled none none none))) := by
  rw [exec_claimIn h hf, claimInService_absent absent, Served.finish_of_settled settled, State.reply, settled.lines]

/-- A claim that the record yields to: the record is released (R61 to R63). -/
theorem exec_claimIn_yielded {f : ClaimFields} {s : State} {i : Index} {r : Record} (h : Passes s .claimIn .link)
    (hf : ClaimFields.inRange f s.protection.site = true) (hfind : s.find f.unit = some (i, r)) (hy : s.yields r f = true) :
    ∃ t, exec (.claimIn .link f) s = .next t ∧ t.record? i = none
      ∧ UpToGrants ((s.release i).confirm .link
          ⟨32, .done false (some .yielded) (.claimSettled (some r.state) none none)⟩) t := by
  obtain ⟨hrec, _⟩ := State.find_eq_some hfind
  have hexec := exec_claimIn h hf
  have hup := Served.finish_upToGrants (claimInService f s) Kind.claimIn.code .link
  rw [claimInService_yielded hfind hy] at hexec hup
  exact ⟨_, hexec, hup.vacant i ((State.record?_confirm ..).trans (State.record?_release_self hrec)), hup⟩

/-- A claim that the record does not yield to: a COUNTERCLAIM is offered (R62 to R64). -/
theorem exec_claimIn_kept {f : ClaimFields} {s : State} {i : Index} {r : Record} (h : Passes s .claimIn .link)
    (hf : ClaimFields.inRange f s.protection.site = true) (settled : Settled s) (hfind : s.find f.unit = some (i, r))
    (hy : ¬ s.yields r f = true) :
    exec (.claimIn .link f) s = .next
      ((s.offered (.counterclaim r.unit s.protection.site r.seq f.site)).reply .link .claimIn
        (.done false (some .kept) (.claimSettled (some r.state) (some r.seq) (some s.fateOfOffer)))) := by
  rw [exec_claimIn h hf, claimInService_kept hfind hy, Served.finish, settled.settle_offered, State.reply]

/-- Settles O29: the settlement follows from whether the record found yields. -/
theorem claimInIsSettledByOneWinner : Obligations.ClaimInIsSettledByOneWinner := by
  intro f s h hunit hsite hseq
  have hf : ClaimFields.inRange f s.protection.site = true := (ClaimFields.inRange_iff f s).mpr ⟨hunit, hsite, hseq⟩
  refine ⟨exec_claimIn_absent h hf, fun i r hfind hyields => exec_claimIn_yielded h hf hfind ?_,
    fun i r settled hfind hnewer hkept => exec_claimIn_kept h hf settled hfind ?_⟩
  · simpa only [State.yields_iff, State.targetOf?_eq_some] using hyields
  · rw [State.yields_iff]
    rcases hkept with hactive | ⟨htransit, k, x, hslot, htrans, hother⟩
    · simp [hactive, hnewer]
    · have htarget : s.targetOf? r = some x.target := State.targetOf?_eq_some.mpr ⟨k, x, hslot, htrans, rfl⟩
      simp [htransit, hnewer, htarget, hother]

end Sys2Proof.Machine
end

section
/-! PROOF. The visits that take a record to LOST or release it (04 R78, R79, R88, R89). -/

namespace Sys2Proof.Machine

/-! ## A record changed -/

/-- Two changes of one record are one change. -/
theorem State.modifyRecord_modifyRecord (s : State) (i : Index) (f g : Record → Record) :
    (s.modifyRecord i f).modifyRecord i g = s.modifyRecord i (g ∘ f) := by
  simp [State.modifyRecord, VisitorTable.modify]

/-- Two changes of one record, the handover unit set between them. -/
theorem State.modifyRecord_behind_handover (s : State) (i : Index) (f g : Record → Record) (u : HandoverUnit) :
    ({ s.modifyRecord i f with handover := u } : State).modifyRecord i g = { s.modifyRecord i (g ∘ f) with handover := u } := by
  rw [← State.modifyRecord_modifyRecord]
  rfl

/-- A change of a record whose contents are known sets its place among the records. -/
theorem State.modifyRecord_eq_set {s : State} {i : Index} {r : Record} (h : s.record? i = some r) (f : Record → Record) :
    s.modifyRecord i f =
      { s with visitors := { s.visitors with records := s.visitors.records.set i (some (f r)) } } := by
  have hr : s.visitors.records[i] = some r := h
  simp only [State.modifyRecord, VisitorTable.modify, hr, Option.map_some]

/-- A change of a record whose contents are known is an assignment. -/
theorem State.modifyRecord_eq_const {s : State} {i : Index} {r : Record} (h : s.record? i = some r) (f : Record → Record) :
    s.modifyRecord i f = s.modifyRecord i (fun _ => f r) :=
  (State.modifyRecord_eq_set h f).trans (State.modifyRecord_eq_set h (fun _ => f r)).symm

/-- A change that changes nothing of the record changes nothing. -/
theorem State.modifyRecord_eq_self {s : State} {i : Index} {r : Record} (h : s.record? i = some r) {f : Record → Record}
    (hf : f r = r) : s.modifyRecord i f = s := by
  have hr : s.visitors.records[i] = some r := h
  have hset : s.visitors.records.set i (some r) = s.visitors.records := by
    rw [← hr]
    exact Vector.set_getElem_self i.isLt
  rw [State.modifyRecord_eq_set h, hf, hset]

/-! ## The record that a visit takes -/

/-- The record a visit takes is occupied (R73). -/
theorem State.record?_of_nextVisit? {s : State} {i : Index} {r : Record} (h : s.nextVisit? = some (i, r)) :
    s.record? i = some r := by
  obtain ⟨j, _, hj⟩ := List.exists_of_findSome?_eq_some h
  obtain ⟨q, hq, hsome⟩ := Option.bind_eq_some_iff.mp hj
  split at hsome
  · cases hsome
    exact hq
  · cases hsome

theorem State.visitNext_of_active {s : State} {p : Snapshot} {i : Index} {r : Record} (flight : s.sweep.inFlight = true)
    (snapshot : s.sweep.snapshot = some p) (next : s.nextVisit? = some (i, r)) (state : r.state = .active) :
    s.visitNext = (s.stampVisited i).visitActive p i r := by
  simp only [State.visitNext, flight, snapshot, next, state]

theorem State.visitNext_of_lost {s : State} {p : Snapshot} {i : Index} {r : Record} (flight : s.sweep.inFlight = true)
    (snapshot : s.sweep.snapshot = some p) (next : s.nextVisit? = some (i, r)) (state : r.state = .lost) :
    s.visitNext = (s.stampVisited i).visitLost p i r := by
  simp only [State.visitNext, flight, snapshot, next, state]

theorem State.visitNext_of_expected {s : State} {p : Snapshot} {i : Index} {r : Record} (flight : s.sweep.inFlight = true)
    (snapshot : s.sweep.snapshot = some p) (next : s.nextVisit? = some (i, r)) (state : r.state = .expected) :
    s.visitNext = (s.stampVisited i).visitExpected p i r := by
  simp only [State.visitNext, flight, snapshot, next, state]

/-- The stamp and a further change of the record are one assignment, behind the fall of the unvisited count (R74). -/
theorem State.stampVisited_modifyRecord {s : State} {i : Index} {r : Record} (h : s.record? i = some r) (f : Record → Record) :
    (s.stampVisited i).modifyRecord i f =
      { s.modifyRecord i (fun _ => f { r with stamp := s.sweep.parity }) with
        sweep := { s.sweep with unvisited := s.sweep.unvisited - 1 } } := by
  have hs : (s.stampVisited i).modifyRecord i f =
      { (s.modifyRecord i (fun r => { r with stamp := s.sweep.parity })).modifyRecord i f with
        sweep := { s.sweep with unvisited := s.sweep.unvisited - 1 } } := rfl
  rw [hs, State.modifyRecord_modifyRecord, State.modifyRecord_eq_const h]
  rfl

/-! ## The visits by state -/

/-- None of the newest n entries is heard (R79). -/
theorem Record.silent_iff (r : Record) (n : Nat) : r.silent n = true ↔ ∀ h ∈ r.history.toList.take n, h = false := by
  simp [Record.silent]

/-- The loss of a record as one change of it (R79, R90). -/
theorem State.lose_eq (s : State) (i : Index) (r : Record) :
    s.lose i r = { s.modifyRecord i (fun x => { x with state := .lost, stateAge := 0, queued := false, target := none }) with
      handover := s.handover.dequeue i
      interest := s.interest.decrementAll s.selected.leaveHold r.talkgroups } := by
  have hl : s.lose i r =
      { (s.modifyRecord i (fun x => { x with state := .lost, stateAge := 0 })).modifyRecord i Record.unqueued with
        handover := s.handover.dequeue i
        interest := s.interest.decrementAll s.selected.leaveHold r.talkgroups } := rfl
  rw [hl, State.modifyRecord_modifyRecord]
  rfl

/-- The visit of an ACTIVE record that is silent for the loss window (R78, R79). -/
theorem State.visitActive_silent {s : State} {p : Snapshot} {i : Index} {r : Record} (h : s.record? i = some r)
    (silent : ∀ h ∈ (r.visited s.sweep.parity).history.toList.take p.lossWindow, h = false) :
    (s.stampVisited i).visitActive p i r =
      { s.modifyRecord i (fun _ => { r.visited s.sweep.parity with state := .lost, stateAge := 0, queued := false, target := none }) with
        handover := s.handover.dequeue i
        interest := s.interest.decrementAll s.selected.leaveHold r.talkgroups
        sweep := { s.sweep with unvisited := s.sweep.unvisited - 1 } } := by
  have hsilent : r.shifted.silent p.lossWindow = true := (Record.silent_iff _ _).mpr silent
  unfold State.visitActive
  simp only [hsilent, if_true]
  rw [State.lose_eq, State.modifyRecord_modifyRecord, State.stampVisited_modifyRecord h]
  rfl

/-- The visit of a LOST record (R88). -/
theorem State.visitLost_eq {s : State} {p : Snapshot} {i : Index} {r : Record} (h : s.record? i = some r) {u : State}
    (hu : u = { s.modifyRecord i (fun _ =>
        { r.visited s.sweep.parity with stateAge := min 255 (r.stateAge + 1), inCall := r.inCall }) with
      sweep := { s.sweep with unvisited := s.sweep.unvisited - 1 } }) :
    (s.stampVisited i).visitLost p i r = if p.lostHold ≤ min 255 (r.stateAge + 1) then u.release i else u := by
  unfold State.visitLost
  rw [State.stampVisited_modifyRecord h, hu]
  rfl

/-- The visit of an EXPECTED record (R89). -/
theorem State.visitExpected_eq {s : State} {p : Snapshot} {i : Index} {r : Record} (h : s.record? i = some r) {u : State}
    (hu : u = { s.modifyRecord i (fun _ =>
        { r with stateAge := min 255 (r.stateAge + 1), stamp := s.sweep.parity }) with
      sweep := { s.sweep with unvisited := s.sweep.unvisited - 1 } }) :
    (s.stampVisited i).visitExpected p i r = if p.arrivalTimeout ≤ min 255 (r.stateAge + 1) then u.release i else u := by
  unfold State.visitExpected
  rw [State.stampVisited_modifyRecord h, hu]
  rfl

/-- Settles O39: each visit is one assignment of the record, and UpToGrants allows for what the step grants behind it. -/
theorem visitLosesOrReleasesRecord : Obligations.VisitLosesOrReleasesRecord := by
  intro s p i r pin flight snapshot next
  have hrec := State.record?_of_nextVisit? next
  obtain ⟨t, hexec, hup⟩ := event_served (f := State.visitNext) pin
  refine ⟨fun hactive silent => ⟨t, hexec, ?_⟩, fun limit v u hcase hu => ⟨t, hexec, ?_⟩⟩
  · rw [State.visitNext_of_active flight snapshot next hactive, State.visitActive_silent hrec silent] at hup
    exact hup
  · have hage : s.visitNext = if limit ≤ min 255 (r.stateAge + 1) then u.release i else u := by
      rcases hcase with ⟨hlost, rfl, rfl⟩ | ⟨hexpected, rfl, rfl⟩
      · rw [State.visitNext_of_lost flight snapshot next hlost]
        exact State.visitLost_eq hrec hu
      · rw [State.visitNext_of_expected flight snapshot next hexpected]
        exact State.visitExpected_eq hrec hu
    rw [hage] at hup
    refine ⟨fun hreached => ?_, fun hyoung => ?_⟩
    · rwa [if_pos hreached] at hup
    · rwa [if_neg (Nat.not_le.mpr hyoung)] at hup

end Sys2Proof.Machine
end

section
/-! PROOF. The winner of a decision (04 R83): the fold of the best candidate against the order of effective scores and sites. -/

namespace Sys2Proof.Machine

/-- An effective score and site rank at least as high as another: a greater score, or an equal one and no higher site (R83). -/
def RanksFirst (v site w other : Nat) : Prop := w < v ∨ (w = v ∧ site ≤ other)

theorem RanksFirst.trans {v site w other x third : Nat} (h : RanksFirst v site w other) (h' : RanksFirst w other x third) :
    RanksFirst v site x third := by
  unfold RanksFirst at *
  omega

theorem RanksFirst.antisymm {v site w other : Nat} (h : RanksFirst v site w other) (h' : RanksFirst w other v site) :
    site = other ∧ v = w := by
  unfold RanksFirst at *
  omega

/-- A site and score of some candidate of a list that rank at least as high as every candidate's (R83). -/
structure State.IsBest (s : State) (rescue : Bool) (l : List NeighbourEntry) (site v : Nat) : Prop where
  attained : ∃ e ∈ l, e.site = site ∧ s.candidate rescue e = some v
  first : ∀ e ∈ l, ∀ w, s.candidate rescue e = some w → RanksFirst v site w e.site

theorem State.IsBest.unique {s : State} {rescue : Bool} {l : List NeighbourEntry} {site v other w : Nat}
    (h : s.IsBest rescue l site v) (h' : s.IsBest rescue l other w) : site = other ∧ v = w := by
  obtain ⟨e, he, rfl, hv⟩ := h.attained
  obtain ⟨e', he', rfl, hw⟩ := h'.attained
  exact (h.first e' he' w hw).antisymm (h'.first e he v hv)

/-- A candidate that ranks at least as high as those behind it is the best. -/
theorem State.IsBest.head {s : State} {rescue : Bool} {e : NeighbourEntry} {rest : List NeighbourEntry} {v : Nat}
    (hc : s.candidate rescue e = some v)
    (hrest : ∀ d ∈ rest, ∀ w, s.candidate rescue d = some w → RanksFirst v e.site w d.site) :
    s.IsBest rescue (e :: rest) e.site v := by
  refine ⟨⟨e, List.mem_cons_self, rfl, hc⟩, List.forall_mem_cons.mpr ⟨fun w hw => ?_, hrest⟩⟩
  obtain rfl := Option.some.inj (hc.symm.trans hw)
  exact .inr ⟨rfl, le_refl _⟩

/-- The best candidate stays the best behind an entry that ranks no higher. -/
theorem State.IsBest.tail {s : State} {rescue : Bool} {e : NeighbourEntry} {rest : List NeighbourEntry} {site v : Nat}
    (h : s.IsBest rescue rest site v) (hhead : ∀ w, s.candidate rescue e = some w → RanksFirst v site w e.site) :
    s.IsBest rescue (e :: rest) site v := by
  obtain ⟨⟨d, hd, hatt⟩, hfirst⟩ := h
  exact ⟨⟨d, List.mem_cons_of_mem e hd, hatt⟩, List.forall_mem_cons.mpr ⟨hhead, hfirst⟩⟩

/-- The fold of the best candidate, one entry at a time (R83). -/
theorem State.best_cons (s : State) (rescue : Bool) (e : NeighbourEntry) (rest : List NeighbourEntry) :
    s.best rescue (e :: rest) = match s.candidate rescue e, s.best rescue rest with
      | none, b => b
      | some v, none => some (e.site, v)
      | some v, some (site, w) => if w < v ∨ (w = v ∧ e.site < site) then some (e.site, v) else some (site, w) := by
  rfl

/-- There is a best candidate unless no entry is a candidate (R83). -/
theorem State.best_eq_none {s : State} {rescue : Bool} {l : List NeighbourEntry} :
    s.best rescue l = none ↔ ∀ e ∈ l, s.candidate rescue e = none := by
  induction l with
  | nil => simp [State.best]
  | cons e rest ih =>
    rw [State.best_cons, List.forall_mem_cons, ← ih]
    cases s.candidate rescue e with
    | none => simp
    | some v =>
      cases s.best rescue rest with
      | none => simp
      | some b => simp only; split <;> simp

/-- The best candidate of a list ranks first in it (R83). -/
theorem State.isBest_of_best {s : State} {rescue : Bool} {l : List NeighbourEntry} {site v : Nat}
    (h : s.best rescue l = some (site, v)) : s.IsBest rescue l site v := by
  induction l generalizing site v with
  | nil => cases h
  | cons e rest ih =>
    rw [State.best_cons] at h
    cases hc : s.candidate rescue e with
    | none =>
      rw [hc] at h
      refine (ih h).tail fun w hw => ?_
      rw [hc] at hw
      cases hw
    | some x =>
      rw [hc] at h
      cases hb : s.best rescue rest with
      | none =>
        rw [hb] at h
        cases h
        refine .head hc fun d hd w hw => ?_
        rw [State.best_eq_none.mp hb d hd] at hw
        cases hw
      | some b =>
        obtain ⟨other, y⟩ := b
        rw [hb] at h
        simp only at h
        split at h
        next hwins =>
          cases h
          have hlead : RanksFirst v e.site y other := by unfold RanksFirst; omega
          exact .head hc fun d hd w hw => hlead.trans ((ih hb).first d hd w hw)
        next hloses =>
          cases h
          refine (ih hb).tail fun w hw => ?_
          obtain rfl := Option.some.inj (hc.symm.trans hw)
          unfold RanksFirst
          omega

/-- The best candidate is the one that ranks first (R83). -/
theorem State.best_eq_some {s : State} {rescue : Bool} {l : List NeighbourEntry} {site v : Nat} :
    s.best rescue l = some (site, v) ↔ s.IsBest rescue l site v := by
  refine ⟨State.isBest_of_best, fun h => ?_⟩
  cases hb : s.best rescue l with
  | none =>
    obtain ⟨e, he, _, hv⟩ := h.attained
    rw [State.best_eq_none.mp hb e he] at hv
    cases hv
  | some b =>
    obtain ⟨rfl, rfl⟩ := h.unique (State.isBest_of_best hb)
    rfl

/-- The winner is the best candidate when it beats home (R83). -/
theorem State.winner_eq_some {s : State} {p : Snapshot} {r : Record} {site : Nat} :
    s.winner p r = some site ↔
      ∃ v, s.IsBest (r.rescue p) r.neighbours site v ∧ r.home.getD 0 + 16 * p.hysteresis ≤ v := by
  simp only [← State.best_eq_some]
  unfold State.winner
  cases s.best (r.rescue p) r.neighbours with
  | none => simp
  | some b =>
    obtain ⟨other, w⟩ := b
    simp only [Option.ite_none_right_eq_some, Option.some.injEq, Prod.mk.injEq]
    constructor
    · rintro ⟨hbeats, rfl⟩
      exact ⟨w, ⟨rfl, rfl⟩, hbeats⟩
    · rintro ⟨_, ⟨rfl, rfl⟩, hbeats⟩
      exact ⟨hbeats, rfl⟩

/-- Rescue as R83 states it. -/
theorem Record.rescue_iff (r : Record) (p : Snapshot) :
    r.rescue p = true ↔ p.rescueFloor ≠ 0 ∧ r.home.getD 0 < 16 * p.rescueFloor := by
  simp [Record.rescue]

/-- The clamp of R83 keeps the effective score from being negative, so nothing is lost when it is read as a natural number. -/
theorem NeighbourEntry.effective_eq (e : NeighbourEntry) (bias : Int) :
    (e.effective bias : Int) = max 0 (min 4080 ((e.estimate : Int) + 16 * bias)) := by
  unfold NeighbourEntry.effective
  omega

/-- The candidates and their effective scores (R83). -/
theorem State.candidate_eq_some {s : State} {p : Snapshot} {r : Record} {e : NeighbourEntry} {v : Nat} :
    s.candidate (r.rescue p) e = some v ↔ ∃ n, s.neighbour? e.site = some n ∧ e.cooldown = 0
      ∧ (n.link = .up ∨ (n.link = .fading ∧ p.rescueFloor ≠ 0 ∧ r.home.getD 0 < 16 * p.rescueFloor))
      ∧ e.effective n.bias = v := by
  unfold State.candidate
  cases s.neighbour? e.site with
  | none => simp
  | some n => simp [Record.rescue_iff, and_assoc]

/-- Settles O40: a winner is a candidate that ranks first, with the order of natural scores read as integers. -/
theorem winnerIsBestCandidateBeatingHome : Obligations.WinnerIsBestCandidateBeatingHome := by
  intro s p r site _
  rw [State.winner_eq_some]
  constructor
  · rintro ⟨v, ⟨⟨e, he, rfl, hc⟩, hfirst⟩, hbeats⟩
    obtain ⟨n, hn, hcool, hlink, rfl⟩ := State.candidate_eq_some.mp hc
    refine ⟨e, n, he, rfl, hn, hcool, hlink, ?_, fun e' he' n' hn' hcool' hlink' => ?_⟩
    · rw [← NeighbourEntry.effective_eq]
      exact_mod_cast hbeats
    · have hrank := hfirst e' he' _ (State.candidate_eq_some.mpr ⟨n', hn', hcool', hlink', rfl⟩)
      simp only [← NeighbourEntry.effective_eq]
      exact_mod_cast hrank
  · rintro ⟨e, n, he, rfl, hn, hcool, hlink, hbeats, hfirst⟩
    rw [← NeighbourEntry.effective_eq] at hbeats
    simp only [← NeighbourEntry.effective_eq] at hfirst
    refine ⟨e.effective n.bias, ⟨⟨e, he, rfl, State.candidate_eq_some.mpr ⟨n, hn, hcool, hlink, rfl⟩⟩,
      fun e' he' w hw => ?_⟩, by exact_mod_cast hbeats⟩
    obtain ⟨n', hn', hcool', hlink', rfl⟩ := State.candidate_eq_some.mp hw
    exact_mod_cast hfirst e' he' n' hn' hcool' hlink'

end Sys2Proof.Machine
end

section
/-! PROOF. The decision as one assignment of the record and its class queue (04 R84 to R86). -/

namespace Sys2Proof.Machine

/-! ## Class queues -/

@[simp] theorem HandoverUnit.queues_dequeue (h : HandoverUnit) (i : Index) (c : Fin 4) :
    (h.dequeue i).queues[c] = h.queues[c].filter (fun j => j != i) := by
  simp [HandoverUnit.dequeue]

@[simp] theorem HandoverUnit.queues_enqueue (h : HandoverUnit) (cls : RadioClass) (i : Index) (c : Fin 4) :
    (h.enqueue cls i).queues[c] = h.queues[c] ++ if c = cls.index then [i] else [] := by
  by_cases hc : c = cls.index
  · subst hc
    simp [HandoverUnit.enqueue]
  · have hne : ¬ cls.index.val = c.val := fun e => hc (Fin.ext e.symm)
    simp [HandoverUnit.enqueue, hc, hne]

/-- A record that is not queued is in no class queue (R90). -/
theorem ClassQueuesExact.not_mem {s : State} (sound : ClassQueuesExact s) {i : Index} {r : Record} (h : s.record? i = some r)
    (hq : r.queued = false) (c : Fin 4) : i ∉ s.handover.queues[c] := by
  rw [sound.mem_iff, h]
  simp [hq]

/-- A record that is not queued is in no class queue to be taken from (R90). -/
theorem ClassQueuesExact.dequeue_eq_self {s : State} (sound : ClassQueuesExact s) {i : Index} {r : Record}
    (h : s.record? i = some r) (hq : r.queued = false) : s.handover.dequeue i = s.handover := by
  have hqueues : (s.handover.dequeue i).queues = s.handover.queues := by
    ext1 c hc
    refine (HandoverUnit.queues_dequeue s.handover i ⟨c, hc⟩).trans (List.filter_eq_self.mpr fun j hj => ?_)
    simp only [bne_iff_ne]
    rintro rfl
    exact sound.not_mem h hq ⟨c, hc⟩ hj
  exact congrArg (fun q => { s.handover with queues := q }) hqueues

/-- Where nothing is queued a withdrawal has nothing to take (R90). -/
theorem ClassQueuesExact.withdraw_eq_self {s : State} (sound : ClassQueuesExact s) {i : Index} {r : Record}
    (h : s.record? i = some r) (hq : r.queued = false) : s.withdraw i = s := by
  have htarget : r.target = none := by simpa [hq] using (sound.queued i r h).2
  have hr : r.unqueued = r := by
    unfold Record.unqueued
    rw [← hq, ← htarget]
  unfold State.withdraw
  rw [State.modifyRecord_eq_self h hr, sound.dequeue_eq_self h hq]

/-- A withdrawal and a further change of the record are one change of it, behind the withdrawal from the queue (R90). -/
theorem State.withdraw_modifyRecord (s : State) (i : Index) (f : Record → Record) :
    (s.withdraw i).modifyRecord i f =
      { s.modifyRecord i (f ∘ Record.unqueued) with handover := s.handover.dequeue i } :=
  s.modifyRecord_behind_handover i Record.unqueued f (s.handover.dequeue i)

/-! ## What a decision leaves -/

/-- A record with the better counts of a decision (R85). -/
def Record.recounted (r : Record) (winner : Option Nat) : Record :=
  { r with neighbours := r.neighbours.map (fun e => e.counted winner) }

/-- A queued record whose target is the winner stays queued (R84). -/
def Record.stays (r : Record) (winner : Option Nat) : Bool := r.queued && decide (r.target = winner)

/-- The target that a decision leaves: the winner's site, when the record stays queued or the dwell is met (R84, R86). -/
def Record.decidedTarget (r : Record) (p : Snapshot) (winner : Option Nat) : Option Nat :=
  winner.filter (fun site => r.stays winner || (r.recounted winner).dwellMet p site)

/-- The record that a decision leaves (R84 to R86). -/
def Record.decided (r : Record) (p : Snapshot) (winner : Option Nat) : Record :=
  { r.recounted winner with queued := (r.decidedTarget p winner).isSome, target := r.decidedTarget p winner }

/-- The handover unit that a decision leaves (R84, R86, R90). -/
def HandoverUnit.decided (h : HandoverUnit) (p : Snapshot) (winner : Option Nat) (i : Index) (r : Record) : HandoverUnit :=
  if r.stays winner then h
  else if (r.decidedTarget p winner).isSome then (h.dequeue i).enqueue r.cls i
  else h.dequeue i

theorem Record.stays_iff (r : Record) (winner : Option Nat) : r.stays winner = true ↔ r.queued = true ∧ r.target = winner := by
  simp [Record.stays]

/-- A record that stays queued keeps its target (R84). -/
theorem Record.decidedTarget_of_stays {r : Record} {p : Snapshot} {winner : Option Nat} (h : r.stays winner = true) :
    r.decidedTarget p winner = winner := by
  cases winner with
  | none => rfl
  | some site => simp [Record.decidedTarget, Option.filter, h]

/-- With no winner no target is left (R84). -/
theorem Record.decidedTarget_none (r : Record) (p : Snapshot) : r.decidedTarget p none = none := rfl

/-- A record that does not stay queued is queued for the winner when the dwell is met (R86). -/
theorem Record.decidedTarget_some {r : Record} {p : Snapshot} {site : Nat} (h : r.stays (some site) = false) :
    r.decidedTarget p (some site) = if (r.recounted (some site)).dwellMet p site then some site else none := by
  simp [Record.decidedTarget, Option.filter, h]

theorem Record.dwellMet_iff (r : Record) (p : Snapshot) (site : Nat) :
    r.dwellMet p site = true ↔ ∃ e ∈ r.neighbours, e.site = site ∧ r.requiredDwell p ≤ e.better := by
  simp [Record.dwellMet]

/-- The dwell of a decision as R86 states it; better counts have no part in it. -/
theorem Record.requiredDwell_recounted (r : Record) (p : Snapshot) (winner : Option Nat) :
    (r.recounted winner).requiredDwell p =
      if p.rescueFloor ≠ 0 ∧ r.home.getD 0 < 16 * p.rescueFloor then 1 else p.dwell := by
  simp only [Record.requiredDwell, Record.rescue_iff, Record.recounted]

/-- The dwell is met when the winner's entry, counted once more, reaches it (R85, R86). -/
theorem Record.dwellMet_recounted_iff (r : Record) (p : Snapshot) (site : Nat) :
    (r.recounted (some site)).dwellMet p site = true ↔ ∃ e ∈ r.neighbours, e.site = site ∧
      (if p.rescueFloor ≠ 0 ∧ r.home.getD 0 < 16 * p.rescueFloor then 1 else p.dwell) ≤ min 15 (e.better + 1) := by
  have hneighbours : (r.recounted (some site)).neighbours = r.neighbours.map (fun e => e.counted (some site)) := rfl
  rw [Record.dwellMet_iff, Record.requiredDwell_recounted, hneighbours]
  simp only [List.mem_map, exists_exists_and_eq_and]
  refine exists_congr fun e => and_congr_right fun _ => and_congr_right fun hsite => ?_
  have hcounted : e.site = site := hsite
  rw [NeighbourEntry.counted, hcounted, if_pos rfl]

/-- A decision behind its withdrawal and its better counts, with the queuing still to come (R84, R85). -/
def State.reviewed (s : State) (p : Snapshot) (i : Index) (r : Record) : State :=
  (if r.queued ∧ r.target ≠ s.winner p r then s.withdraw i else s).modifyRecord i
    (fun x => { x with neighbours := (r.recounted (s.winner p r)).neighbours })

theorem State.decideHandover_of_winner_none {s : State} {p : Snapshot} {r : Record} (hw : s.winner p r = none) (i : Index) :
    s.decideHandover p i r = s.reviewed p i r := by
  simp only [State.decideHandover, State.reviewed, Record.recounted, hw]

theorem State.decideHandover_of_winner_some {s : State} {p : Snapshot} {r : Record} {site : Nat} (hw : s.winner p r = some site)
    (i : Index) : s.decideHandover p i r =
      if !r.stays (some site) && (r.recounted (some site)).dwellMet p site then
        { (s.reviewed p i r).modifyRecord i (fun x => { x with queued := true, target := some site }) with
          handover := (s.reviewed p i r).handover.enqueue r.cls i }
      else s.reviewed p i r := by
  simp only [State.decideHandover, State.reviewed, Record.recounted, Record.stays, hw]

/-- A record that stays queued is not queued again (R86). -/
theorem State.decideHandover_of_stays {s : State} {p : Snapshot} {i : Index} {r : Record}
    (hstays : r.stays (s.winner p r) = true) : s.decideHandover p i r = s.reviewed p i r := by
  cases hw : s.winner p r with
  | none => exact State.decideHandover_of_winner_none hw i
  | some site =>
    rw [hw] at hstays
    rw [State.decideHandover_of_winner_some hw, hstays]
    rfl

theorem State.reviewed_of_stays {s : State} {p : Snapshot} {i : Index} {r : Record} (h : s.record? i = some r)
    (hstays : r.stays (s.winner p r) = true) :
    s.reviewed p i r = s.modifyRecord i (fun _ => r.recounted (s.winner p r)) := by
  have hkept : ¬(r.queued = true ∧ r.target ≠ s.winner p r) := fun hw => hw.2 ((Record.stays_iff _ _).mp hstays).2
  rw [State.reviewed, if_neg hkept, State.modifyRecord_eq_const h]
  rfl

/-- A record that does not stay queued is in no class queue and has no target before the queuing (R84). -/
theorem ClassQueuesExact.reviewed_of_not_stays {s : State} (sound : ClassQueuesExact s) {p : Snapshot} {i : Index} {r : Record}
    (h : s.record? i = some r) (hstays : r.stays (s.winner p r) = false) :
    s.reviewed p i r = { s.modifyRecord i (fun _ => (r.recounted (s.winner p r)).unqueued) with
      handover := s.handover.dequeue i } := by
  have hwithdrawn : (if r.queued ∧ r.target ≠ s.winner p r then s.withdraw i else s) = s.withdraw i := by
    cases hq : r.queued with
    | false => simp [sound.withdraw_eq_self h hq]
    | true =>
      have htarget : r.target ≠ s.winner p r := by simpa [Record.stays, hq] using hstays
      simp [htarget]
  rw [State.reviewed, hwithdrawn, State.withdraw_modifyRecord, State.modifyRecord_eq_const h]
  rfl

/-- A decision leaves a record that stays queued with its target (R84). -/
theorem ClassQueuesExact.decided_of_stays {s : State} (sound : ClassQueuesExact s) {p : Snapshot} {i : Index} {r : Record}
    (h : s.record? i = some r) {winner : Option Nat} (hstays : r.stays winner = true) :
    r.decided p winner = r.recounted winner := by
  obtain ⟨_, htarget⟩ := (Record.stays_iff _ _).mp hstays
  rw [Record.decided, Record.decidedTarget_of_stays hstays, ← htarget, (sound.queued i r h).2]
  rfl

/-- A decision as one assignment of the record and of the handover unit (R84 to R86). -/
theorem ClassQueuesExact.decideHandover_eq {s : State} (sound : ClassQueuesExact s) (p : Snapshot) {i : Index} {r : Record}
    (h : s.record? i = some r) :
    s.decideHandover p i r = { s.modifyRecord i (fun _ => r.decided p (s.winner p r)) with
      handover := s.handover.decided p (s.winner p r) i r } := by
  cases hstays : r.stays (s.winner p r) with
  | true =>
    rw [State.decideHandover_of_stays hstays, State.reviewed_of_stays h hstays, HandoverUnit.decided, if_pos hstays,
      sound.decided_of_stays h hstays]
    rfl
  | false =>
    have hreviewed := sound.reviewed_of_not_stays h hstays
    rw [HandoverUnit.decided, hstays]
    cases hw : s.winner p r with
    | none =>
      rw [State.decideHandover_of_winner_none hw, hreviewed, hw]
      rfl
    | some site =>
      rw [hw] at hstays hreviewed
      rw [State.decideHandover_of_winner_some hw, hreviewed, Record.decided, Record.decidedTarget_some hstays, hstays]
      cases (r.recounted (some site)).dwellMet p site with
      | false => rfl
      | true =>
        rw [State.modifyRecord_behind_handover]
        rfl

/-! ## The clauses of the decision -/

/-- A queued record has a target, so it does not stay queued with no winner (R84, R90). -/
theorem ClassQueuesExact.stays_none {s : State} (sound : ClassQueuesExact s) {i : Index} {r : Record}
    (h : s.record? i = some r) : r.stays none = false := by
  rw [Bool.eq_false_iff, ne_eq, Record.stays_iff]
  rintro ⟨hq, htarget⟩
  have hsome := (sound.queued i r h).2
  rw [hq, htarget] at hsome
  cases hsome

/-- A decision touches no transaction slot (R86). -/
theorem HandoverUnit.decided_eq (h : HandoverUnit) (p : Snapshot) (winner : Option Nat) (i : Index) (r : Record) :
    h.decided p winner i r = { h with queues := (h.decided p winner i r).queues } := by
  unfold HandoverUnit.decided
  split
  · rfl
  · split <;> rfl

/-- A record that is left without a target is left in no class queue (R84). -/
theorem HandoverUnit.decided_of_target_none {r : Record} {p : Snapshot} {winner : Option Nat} (h : HandoverUnit) (i : Index)
    (hstays : r.stays winner = false) (htarget : r.decidedTarget p winner = none) :
    h.decided p winner i r = h.dequeue i := by
  simp [HandoverUnit.decided, hstays, htarget]

/-- A record that is given a target goes to the tail of its class queue (R86). -/
theorem HandoverUnit.decided_of_target_some {r : Record} {p : Snapshot} {winner : Option Nat} {site : Nat} (h : HandoverUnit)
    (i : Index) (hstays : r.stays winner = false) (htarget : r.decidedTarget p winner = some site) :
    h.decided p winner i r = (h.dequeue i).enqueue r.cls i := by
  simp [HandoverUnit.decided, hstays, htarget]

/-- Settles O41: the decision is one assignment of the record and the handover unit; each clause evaluates the target it leaves. -/
theorem decisionCountsWithdrawsAndQueues : Obligations.DecisionCountsWithdrawsAndQueues := by
  intro s p i r h sound _
  rw [sound.decideHandover_eq p h]
  refine ⟨r.decided p (s.winner p r), ?_, rfl, rfl, ?_, fun hw => ?_, fun hq htarget => ?_, fun site hw hanew => ?_⟩
  · exact (State.record?_modifyRecord s i i _).trans (by simp [h])
  · rw [State.modifyRecord_eq_set h, HandoverUnit.decided_eq]
  · have hstays := sound.stays_none h
    rw [hw]
    refine ⟨rfl, rfl, fun c => ?_⟩
    rw [HandoverUnit.decided_of_target_none _ i hstays (r.decidedTarget_none p), HandoverUnit.queues_dequeue]
  · have hstays : r.stays (s.winner p r) = true := (Record.stays_iff _ _).mpr ⟨hq, htarget⟩
    rw [sound.decided_of_stays h hstays]
    exact ⟨hq, rfl, if_pos hstays⟩
  · have hstays : r.stays (some site) = false := by
      simpa [Record.stays, or_iff_not_imp_left] using hanew
    have htarget := Record.decidedTarget_some (p := p) hstays
    rw [hw]
    refine ⟨fun hmet => ?_, fun hunmet => ?_⟩
    · rw [if_pos ((Record.dwellMet_recounted_iff r p site).mpr hmet)] at htarget
      refine ⟨congrArg Option.isSome htarget, htarget, fun c => ?_⟩
      rw [HandoverUnit.decided_of_target_some _ i hstays htarget, HandoverUnit.queues_enqueue, HandoverUnit.queues_dequeue]
    · have hdwell : ¬(r.recounted (some site)).dwellMet p site = true := by
        rw [Record.dwellMet_recounted_iff]
        rintro ⟨e, he, hsite, hle⟩
        exact Nat.not_lt.mpr hle (hunmet e he hsite)
      rw [if_neg hdwell] at htarget
      refine ⟨congrArg Option.isSome htarget, htarget, fun c => ?_⟩
      rw [HandoverUnit.decided_of_target_none _ i hstays htarget, HandoverUnit.queues_dequeue]

end Sys2Proof.Machine
end

section
/-! PROOF. The grant of a transaction (05 R94, R95): which slot and record it takes, and the state it leaves. -/

namespace Sys2Proof.Machine

/-- The slot of a grant is the lowest-numbered FREE one (R94). -/
theorem HandoverUnit.freeSlot?_eq_some {h : HandoverUnit} {k : Fin 8} :
    h.freeSlot? = some k ↔ h.slots[k].transaction = none ∧ ∀ j : Fin 8, j < k → h.slots[j].transaction ≠ none := by
  have hfirst : h.freeSlot? = firstPlace? h.slots (fun g => g.transaction.isNone) :=
    (firstPlace?_eq_find? h.slots (fun g => g.transaction.isNone)).symm
  rw [hfirst, firstPlace?_eq_some]
  simp only [Option.isNone_iff_eq_none, Option.isNone_eq_false_iff, Option.isSome_iff_ne_none]

/-- The record of a grant is the head of the lowest-numbered class queue that is not empty (R94). -/
theorem HandoverUnit.nextQueued?_eq_some {h : HandoverUnit} {i : Index} :
    h.nextQueued? = some i ↔
      ∃ c : Fin 4, h.queues[c].head? = some i ∧ ∀ d : Fin 4, d < c → h.queues[d] = [] := by
  have hfirst : h.nextQueued? = Fin.findSome? (fun c => h.queues[c].head?) :=
    (Fin.findSome?_eq_findSome?_finRange _).symm
  rw [hfirst, Fin.findSome?_eq_some_iff]
  simp only [List.head?_eq_none_iff]

/-- With nothing of a higher rank owed, a place of the link queue goes to the candidate of the handover arbiter (R93, R146). -/
theorem State.grantPlace_of_nextGrant? {s : State} {k : Fin 8} {i : Index} {r : Record} (room : s.linkHasRoom = true)
    (refresh : s.ports.link.refreshOwed = false) (claims : s.claims = []) (leaves : s.interest.owedLeaves = [])
    (joins : s.interest.nextJoin? = none) (next : s.nextGrant? = some (k, i, r)) : s.grantPlace = some (s.grant k i r) := by
  simp [State.grantPlace, room, refresh, claims, leaves, joins, next]

/-- A FREE slot, the head of a class queue and its record make the arbiter's candidate (R94). -/
theorem State.nextGrant?_of_freeSlot? {s : State} {k : Fin 8} {i : Index} {r : Record} (slot : s.handover.freeSlot? = some k)
    (queued : s.handover.nextQueued? = some i) (record : s.record? i = some r) : s.nextGrant? = some (k, i, r) := by
  simp [State.nextGrant?, slot, queued, record]

/-- A grant to a record with its target, block by block (R92, R95). -/
theorem State.grant_eq {s : State} {r : Record} {target : Nat} (h : r.target = some target) (k : Fin 8) (i : Index) :
    s.grant k i r = ({ s.modifyRecord i (fun x => x.granted k) with
        handover :=
          { queues := s.handover.queues.map (fun q => q.filter (fun j => j != i))
            slots := s.handover.slots.set k (s.handover.slots[k].granted i target s.selected) } } : State).postLink
      (askNotice s.protection.site target k ((s.handover.slots[k].generation + 1) % 16) r) := by
  unfold State.grant
  rw [h]
  rfl

/-- Settles O42: with the higher ranks owing nothing the place goes to the handover arbiter, whose candidate the hypotheses name. -/
theorem grantStartsTransaction : Obligations.GrantStartsTransaction := by
  intro s k c i queue r target hopen hlength refresh claims leaves joins hfree hlower hqueue hempty hrec htarget
  have room : s.linkHasRoom = true := by simp [State.linkHasRoom, hopen, hlength]
  have slot : s.handover.freeSlot? = some k := HandoverUnit.freeSlot?_eq_some.mpr ⟨hfree, hlower⟩
  have queued : s.handover.nextQueued? = some i :=
    HandoverUnit.nextQueued?_eq_some.mpr ⟨c, by rw [hqueue, List.head?_cons], hempty⟩
  have next : s.nextGrant? = some (k, i, r) := State.nextGrant?_of_freeSlot? slot queued hrec
  rw [State.grantPlace_of_nextGrant? room refresh claims leaves joins next, State.grant_eq htarget]
  rfl

end Sys2Proof.Machine
end

section
/-! PROOF. ASK IN (05 R114 to R117): the allocation it rests on, its service by the state of the record, and its step. -/

namespace Sys2Proof.Machine

/-! ## Allocation -/

/-- COMMAND and AIR may take any free record, the other classes only those above the reserve (R13). -/
theorem VisitorTable.freeOpenTo_iff (t : VisitorTable) (cls : RadioClass) :
    t.freeOpenTo cls = true ↔ cls = .command ∨ cls = .air ∨ t.reserve < t.free.length := by
  cases cls <;> simp [VisitorTable.freeOpenTo]

/-- An allocation that the free list serves takes its head (R13). -/
theorem VisitorTable.freeHead_of_open {t : VisitorTable} {cls : RadioClass} {i : Index} {rest : List Index}
    (hfree : t.free = i :: rest) (hopen : cls = .command ∨ cls = .air ∨ t.reserve < t.free.length) :
    t.freeHead cls = some i := by
  rw [VisitorTable.freeHead, if_pos ((t.freeOpenTo_iff cls).mpr hopen), hfree, List.head?_cons]

/-- The free list serves no allocation of COMMAND or AIR when it is empty, and none of another class within the reserve (R13). -/
theorem VisitorTable.freeHead_eq_none {t : VisitorTable} {cls : RadioClass}
    (h : if cls = .command ∨ cls = .air then t.free = [] else t.free.length ≤ t.reserve) : t.freeHead cls = none := by
  unfold VisitorTable.freeHead
  split at h
  next => simp [h]
  next hcls =>
    refine if_neg fun hopen => ?_
    rcases (t.freeOpenTo_iff cls).mp hopen with hc | hc | hlt
    · exact hcls (.inl hc)
    · exact hcls (.inr hc)
    · omega

/-- The LOST record that no other LOST record precedes in the age list is the oldest (R9). -/
theorem State.oldestLost_eq_some {s : State} {before after : List Index} {i : Index} {r : Record}
    (hage : s.visitors.age = before ++ i :: after) (hrec : s.record? i = some r) (hlost : r.state = .lost)
    (hbefore : ∀ j ∈ before, ∀ x : Record, s.record? j = some x → x.state ≠ .lost) : s.visitors.oldestLost = some i := by
  have hi : s.visitors.records[i] = some r := hrec
  refine List.find?_eq_some_iff_append.mpr ⟨by simp [hi, hlost], before, after, hage, fun j hj => ?_⟩
  cases hx : s.visitors.records[j] with
  | none => rfl
  | some x => simpa using hbefore j hj x hx

/-- With no record LOST there is none to evict (R9, R14). -/
theorem State.oldestLost_eq_none {s : State} (h : ∀ (i : Index) (r : Record), s.record? i = some r → r.state ≠ .lost) :
    s.visitors.oldestLost = none := by
  refine List.find?_eq_none.mpr fun i _ => ?_
  cases hr : s.visitors.records[i] with
  | none => simp
  | some r => simpa using h i r hr

/-- An allocation from the free list (R13, R16). -/
theorem State.allocate_of_freeHead {s : State} {cls : RadioClass} {i : Index} (h : s.visitors.freeHead cls = some i)
    (unit seq : Nat) (state : RecordState) :
    s.allocate unit cls seq state =
      some ({ s with visitors := ({ s.visitors with free := s.visitors.free.tail } : VisitorTable).occupy i (
        .fresh unit cls seq state s.sweep.parity) }, i) := by
  simp only [State.allocate, h]

/-- An allocation in the place of the oldest LOST record (R14, R16). -/
theorem State.allocate_of_oldestLost {s : State} {cls : RadioClass} {i : Index} (hfree : s.visitors.freeHead cls = none)
    (hlost : s.visitors.oldestLost = some i) (unit seq : Nat) (state : RecordState) :
    s.allocate unit cls seq state =
      some ({ s.detach i with visitors := (s.detach i).visitors.occupy i (.fresh unit cls seq state s.sweep.parity) }, i) := by
  simp only [State.allocate, hfree, hlost]

/-- With neither a free record nor a LOST one nothing is allocated (R14). -/
theorem State.allocate_eq_none {s : State} {cls : RadioClass} (hfree : s.visitors.freeHead cls = none)
    (hlost : s.visitors.oldestLost = none) (unit seq : Nat) (state : RecordState) : s.allocate unit cls seq state = none := by
  simp only [State.allocate, hfree, hlost]

/-- An evicted record leaves all that a released one leaves, and does not join the free list (R14, R17). -/
theorem State.detach_eq_release {s : State} {i : Index} {r : Record} (h : s.record? i = some r) :
    s.detach i = { s.release i with visitors := { (s.release i).visitors with free := s.visitors.free } } := by
  rw [State.release_eq h, State.detach_eq h]
  rfl

/-- A change that keeps the unit ID of a record just occupied is a change of what it is occupied with (R6). -/
theorem VisitorTable.modify_occupy (t : VisitorTable) (i : Index) (r : Record) {f : Record → Record}
    (hunit : (f r).unit = r.unit) : (t.occupy i r).modify i f = t.occupy i (f r) := by
  simp [VisitorTable.modify, VisitorTable.occupy, hunit]

/-! ## The service by the state of the record -/

/-- The data that an ask gives a record, its class code read (R115 to R117). -/
theorem Record.asked_eq {f : AskFields} {cls : RadioClass} (hcls : RadioClass.ofCode f.cls = some cls) (r : Record) :
    r.asked f = { r with
      state := .expected, cls := cls, seq := f.seq, serving := none, talkgroups := requestedList f.talkgroups
      stateAge := 0, origin := some f.origin } := by
  rw [Record.asked, hcls, Option.getD_some]

/-- The acceptance of an ask, with the record it is held in and that record's prior state (R114). -/
def askAccepted (f : AskFields) (i : Index) (prior : Option RecordState) : Reply :=
  .done (listReduced f.talkgroups) none (.asked .accept (some i) prior none)

theorem askInService_absent {f : AskFields} {s : State} (h : s.find f.unit = none) : askInService f s = askNew f s := by
  simp only [askInService, h]

/-- An ask whose allocation fills a place of the table (R115). -/
theorem askInService_new {f : AskFields} {s u : State} {cls : RadioClass} {i : Index} {t : VisitorTable} {stamp : Parity}
    (absent : s.find f.unit = none) (hcls : RadioClass.ofCode f.cls = some cls)
    (h : s.allocate f.unit cls f.seq .expected =
      some ({ u with visitors := t.occupy i (.fresh f.unit cls f.seq .expected stamp) }, i)) :
    askInService f s = ({ u with visitors := t.occupy i ((Record.fresh f.unit cls f.seq .expected stamp).asked f) },
      fun _ => askAccepted f i none) := by
  rw [askInService_absent absent]
  simp only [askNew, hcls, Option.getD_some, h, State.modifyRecord]
  rw [VisitorTable.modify_occupy _ _ _ (f := fun r => r.asked f) rfl]
  rfl

/-- An ask with no record to hold it: REFUSE FULL, and TABLE_FULL raised (R115). -/
theorem askInService_full {f : AskFields} {s : State} {cls : RadioClass} (absent : s.find f.unit = none)
    (hcls : RadioClass.ofCode f.cls = some cls) (h : s.allocate f.unit cls f.seq .expected = none) :
    askInService f s = (s.raiseAlarm .tableFull f.unit,
      fun _ => .done (listReduced f.talkgroups) none (.asked .refuseFull none none none)) := by
  rw [askInService_absent absent]
  simp only [askNew, hcls, Option.getD_some, h]

theorem askInService_expected {f : AskFields} {s : State} {i : Index} {r : Record} (h : s.find f.unit = some (i, r))
    (hstate : r.state = .expected) :
    askInService f s = (s.modifyRecord i (fun x => x.asked f), fun _ => askAccepted f i (some r.state)) := by
  simp only [askInService, h, hstate, askAccepted]

theorem askInService_lost {f : AskFields} {s : State} {i : Index} {r : Record} (h : s.find f.unit = some (i, r))
    (hstate : r.state = .lost) : askInService f s = (s.askLost f i, fun _ => askAccepted f i (some r.state)) := by
  simp only [askInService, h, hstate, askAccepted]

theorem askInService_present {f : AskFields} {s : State} {i : Index} {r : Record} (h : s.find f.unit = some (i, r))
    (hstate : r.state = .active ∨ r.state = .transit) :
    askInService f s =
      (s, fun _ => .done (listReduced f.talkgroups) none (.asked .refusePresent none (some r.state) (some r.seq))) := by
  rcases hstate with hactive | htransit
  · simp only [askInService, h, hactive]
  · simp only [askInService, h, htransit]

/-- A LOST record that an ask makes EXPECTED, as one change of it (R117). -/
theorem State.askLost_eq (s : State) (f : AskFields) (i : Index) :
    s.askLost f i = ({ s.modifyRecord i (fun x => { x.asked f with claimPending := false }) with
      claims := s.claims.filter (fun e => e.index != i) } : State).toTail i := by
  simp only [State.askLost, State.dropClaim, State.modifyRecord_modifyRecord]
  rfl

/-! ## The step -/

/-- The RANGE test of ASK IN (R114). -/
theorem AskFields.inRange_iff (f : AskFields) (s : State) :
    AskFields.inRange f s.protection.site = true ↔
      NamesRadio f.unit ∧ s.NamesOtherSite f.origin ∧ (RadioClass.ofCode f.cls).isSome = true ∧ f.seq ≤ 15 := by
  simp [AskFields.inRange, unitInRange, siteInRange, fitsSequence, Config.maxUnit, Config.maxSite, and_assoc]

/-- An ASK IN that passes its checks is its service and the end of the step (R114, R168). -/
theorem exec_askIn {f : AskFields} {s : State} (h : Passes s .askIn .link) (hcount : countFits f.talkgroups = true)
    (hrange : AskFields.inRange f s.protection.site = true) :
    exec (.askIn .link f) s = .next ((askInService f s).finish Kind.askIn.code .link) := by
  have hexec : exec (.askIn .link f) s =
      request .askIn .link (countFits f.talkgroups) false (AskFields.inRange f s.protection.site) (askInService f) s := rfl
  rw [hexec, hcount, hrange, request_passes h rfl]

/-- The step of a service whose reply does not wait for the grants behind it. -/
theorem Served.finish_const_upToGrants {v : Served} {u : State} {reply : Reply} (h : v = (u, fun _ => reply)) (kind : Nat)
    (p : Port) : UpToGrants (u.confirm p ⟨kind, reply⟩) (v.finish kind p) := by
  subst h
  exact Served.finish_upToGrants (u, fun _ => reply) kind p

/-- The step of a service behind which nothing is left to grant. -/
theorem Served.finish_const_eq_reply {v : Served} {u : State} {reply : Reply} (h : v = (u, fun _ => reply))
    (hu : u.settle = u.refreshLines) (k : Kind) (p : Port) : v.finish k.code p = u.reply p k reply := by
  subst h
  rw [Served.finish, hu, State.reply]

/-- An alarm gives the arbiter nothing to grant (R145, R173). -/
theorem Settled.settle_raiseAlarm {s : State} (h : Settled s) (key : AlarmKey) (detail : Nat) :
    (s.raiseAlarm key detail).settle = (s.raiseAlarm key detail).refreshLines :=
  h.settle_same ⟨rfl, rfl⟩ ⟨rfl, rfl, rfl⟩ rfl rfl rfl (fun _ => rfl)

/-- Settles O47: each clause is one service of ASK IN, run to the end of its step. -/
theorem askInAnswersByRecordState : Obligations.AskInAnswersByRecordState := by
  intro s f cls h hcount hunit horigin hseq hcls
  have hrange : AskFields.inRange f s.protection.site = true :=
    (AskFields.inRange_iff f s).mpr ⟨hunit, horigin, by rw [hcls, Option.isSome_some], hseq⟩
  have hexec := exec_askIn h (decide_eq_true hcount) hrange
  refine ⟨fun i rest habsent hfree hopen => ⟨_, hexec, ?_⟩,
    fun before after i r habsent hnone hage hrec hlost hbefore => ⟨_, hexec, ?_⟩,
    fun settled habsent hnone hlost => ?_, fun i r hfind hstate => ⟨_, hexec, ?_⟩, fun i r settled hfind hstate => ?_⟩
  · have halloc := State.allocate_of_freeHead (VisitorTable.freeHead_of_open hfree hopen) f.unit f.seq .expected
    rw [hfree, List.tail_cons] at halloc
    have hserved := askInService_new habsent hcls halloc
    rw [Record.asked_eq hcls] at hserved
    exact Served.finish_const_upToGrants hserved _ _
  · have holdest := State.oldestLost_eq_some hage hrec hlost hbefore
    have halloc := State.allocate_of_oldestLost (VisitorTable.freeHead_eq_none hnone) holdest f.unit f.seq .expected
    rw [State.detach_eq_release hrec] at halloc
    have hserved := askInService_new habsent hcls halloc
    rw [Record.asked_eq hcls] at hserved
    exact Served.finish_const_upToGrants hserved _ _
  · have halloc := State.allocate_eq_none (VisitorTable.freeHead_eq_none hnone) (State.oldestLost_eq_none hlost)
      f.unit f.seq .expected
    have hserved := askInService_full habsent hcls halloc
    rw [hexec, Served.finish_const_eq_reply hserved (settled.settle_raiseAlarm _ _)]
  · rcases hstate with hexpected | hlost
    · have hserved := askInService_expected hfind hexpected
      simp only [Record.asked_eq hcls] at hserved
      rw [if_neg (by rw [hexpected]; decide)]
      exact Served.finish_const_upToGrants hserved _ _
    · have hserved := askInService_lost hfind hlost
      simp only [State.askLost_eq, Record.asked_eq hcls] at hserved
      rw [if_pos hlost]
      exact Served.finish_const_upToGrants hserved _ _
  · have hsettle : s.settle = s.refreshLines := settled.settle_eq.trans settled.lines.symm
    rw [hexec, Served.finish_const_eq_reply (askInService_present hfind hstate) hsettle]

end Sys2Proof.Machine
end

section
/-! PROOF. The role and the port state (09 R166, R168): every request is one run of the checks, and what their steps 2 and 3 refuse. -/

namespace Sys2Proof.Machine

/-! ## A request as one run of the checks -/

/-- The talkgroup list of a frame that fits holds no more IDs than a request may carry (R188). -/
theorem countFits_of_talkgroupsFit {ids : List Nat} (h : talkgroupsFit ids = true) : countFits ids = true := by
  rw [talkgroupsFit, Bool.and_eq_true] at h
  exact h.1

theorem RegisterFields.countFits_of_wf {f : RegisterFields} (h : f.wf = true) : countFits f.talkgroups = true := by
  rw [RegisterFields.wf, Bool.and_eq_true] at h
  exact countFits_of_talkgroupsFit h.2

theorem AskFields.countFits_of_wf {f : AskFields} (h : f.wf = true) : countFits f.talkgroups = true := by
  rw [AskFields.wf, Bool.and_eq_true] at h
  exact countFits_of_talkgroupsFit h.2

/-- A request that fits its frame goes through the checks under its own kind, its size found good; the two kinds that carry a talkgroup
list owe that to the frame (R168, R188). -/
theorem exec_command_eq_request {r : Request} (hwf : r.wf = true) (p : Port) (s : State) :
    ∃ (locked inRange : Bool) (own : State → Served),
      exec (r.command p) s = request r.kind p true locked inRange own s := by
  cases r with
  | register f =>
    have hcount : countFits f.talkgroups = true := RegisterFields.countFits_of_wf hwf
    rw [← hcount]
    exact ⟨_, _, _, rfl⟩
  | askIn f =>
    have hcount : countFits f.talkgroups = true := AskFields.countFits_of_wf hwf
    rw [← hcount]
    exact ⟨_, _, _, rfl⟩
  | _ => exact ⟨_, _, _, rfl⟩

/-- A request refused at steps 1 to 3 adds its confirmation to its port and changes nothing else (R167, R168). -/
theorem exec_command_refused_early {r : Request} {p : Port} {s : State} {reason : Reason} (hs : Settled s)
    (pin : s.resetPinLow = false) (hwf : r.wf = true) (h : s.earlyRefusal r.kind p true = some reason) :
    exec (r.command p) s = .next (s.confirm p ⟨r.kind.code, .refused reason⟩) := by
  obtain ⟨locked, inRange, own, hexec⟩ := exec_command_eq_request hwf p s
  rw [hexec, request_refused_early hs pin h]

/-! ## Steps 2 and 3 of the order of checks -/

theorem portRefusal_closed {k : Kind} (hopen : k ≠ .openPort) (hclose : k ≠ .closePort) :
    portRefusal k .closed = some .closed := by
  simp [portRefusal, hopen, hclose]

theorem portRefusal_muted {k : Kind} (hfetch : k ≠ .fetch) (hclose : k ≠ .closePort) :
    portRefusal k .muted = some .muted := by
  simp [portRefusal, hfetch, hclose]

/-- On a free line a good frame of a kind that the role does not admit is refused ROLE (R166). -/
theorem State.earlyRefusal_role {s : State} {k : Kind} {p : Port} (line : s.outbound p = []) (hrole : k ∉ admittedKinds p) :
    s.earlyRefusal k p true = some .role := by
  have hadmitted : kindAdmitted k p = false := Bool.eq_false_iff.mpr (mt (kindAdmitted_iff k p).mp hrole)
  simp [State.earlyRefusal, line, hadmitted]

/-- On a free line a good frame of a kind that the role admits is judged by the port state alone (R168). -/
theorem State.earlyRefusal_admitted {s : State} {k : Kind} {p : Port} (line : s.outbound p = []) (hrole : k ∈ admittedKinds p) :
    s.earlyRefusal k p true = portRefusal k (s.portState p) := by
  have hadmitted : kindAdmitted k p = true := (kindAdmitted_iff k p).mpr hrole
  simp [State.earlyRefusal, line, hadmitted]

/-- Settles O8: each refusal is the answer of step 2 or of step 3 of the checks. -/
theorem roleAndPortStateAreChecked : Obligations.RoleAndPortStateAreChecked := by
  intro r p s hs pin line hwf
  refine ⟨fun hrole => ?_, fun hrole => ⟨fun hclosed hopen hclose => ?_, fun hmuted hfetch hclose => ?_⟩⟩
  · exact exec_command_refused_early hs pin hwf (State.earlyRefusal_role line hrole)
  · have hearly : s.earlyRefusal r.kind p true = some .closed := by
      rw [State.earlyRefusal_admitted line hrole, hclosed, portRefusal_closed hopen hclose]
    exact exec_command_refused_early hs pin hwf hearly
  · have hearly : s.earlyRefusal r.kind p true = some .muted := by
      rw [State.earlyRefusal_admitted line hrole, hmuted, portRefusal_muted hfetch hclose]
    exact exec_command_refused_early hs pin hwf hearly

end Sys2Proof.Machine
end

section
/-! PROOF. The front of the queue of commands is what a step runs (log entry 1). -/

namespace Sys2Proof.Machine

/-- Settles O1: with a command in front, a step is its execution by definition. -/
theorem stepRunsFrontCommand : Obligations.StepRunsFrontCommand := fun _ _ => rfl

end Sys2Proof.Machine
end

section
/-! PROOF. What a step does to the engine, said once: the changes that services and events are made of, and the step as a run of them
and the end of the step. -/

namespace Sys2Proof.Machine

/-! ## The changes -/

/-- What every done REGISTER writes, up to the MOVE attempt of a refreshed HELD record (R49). -/
def State.written (s : State) (c : Fin 4) (f : RegisterFields) (i : Index) (old : List Nat) (claim : Bool) : State :=
  let t := (s.changeClass i ((RadioClass.ofCode f.cls).getD .general)).modifyRecord i (fun r => { r with serving := some c })
  let t := ((t.applyUplink i (s.scored f.attenuation f.grade)).markHeard i).setTalkgroups i f.unit old (requestedList f.talkgroups)
  if claim then t.oweClaim i f.fresh else t

/-- A held record as a done REGISTER finds it admitted: ACTIVE unless it is TRANSIT, with the sequence to store (R51 to R56). -/
def Record.readmitted (r : Record) (seq : Nat) : Record :=
  match r.state with
  | .expected => { r with state := .active, seq := seq, origin := none }
  | .active => { r with seq := seq }
  | .transit => { r with seq := seq }
  | .lost => { r with state := .active, history := allHeard, seq := seq }

/-- The talkgroups of a record that the interest map counts (R119). -/
def Record.countedList (r : Record) : List Nat := if r.counted then r.talkgroups else []

/-- One change that the service of a request, or an event of the engine, makes, with what its checks have found before it. -/
inductive Deed (s : State) : State → Prop where
  | chatter (c : Fin 4) (below : s.ports.channels[c].chatter < s.ports.allowance) : Deed s (s.chattered c)
  | alarm (key : AlarmKey) (detail : Nat) : Deed s (s.raiseAlarm key detail)
  | channel (c : Fin 4) (f : ChannelPort → ChannelPort) (less : ∀ p, (f p).queue <:+ p.queue ∧ (f p).chatter ≤ p.chatter) :
      Deed s (s.modifyChannel c f)
  | dropAlarms (n : Nat) : Deed s (s.modifyMaintenance (fun p => { p with alarms := p.alarms.drop n }))
  | dropLink (n : Nat) : Deed s (s.modifyLink (fun p => { p with queue := p.queue.drop n }))
  | outbound (l : List Confirmation) (p : Port) : Deed s (s.setOutbound l p)
  | openLink : Deed s s.openLink
  | closeLink (cause : Kind) : Deed s (s.closeLink cause)
  | offer (n : LinkNotice) : Deed s (s.offered n)
  | attempt (k : Fin 8) : Deed s (s.moveAttempt k).1
  | fail (k : Fin 8) (cooldown : Bool) : Deed s (s.failTransaction k cooldown)
  | hear (i : Index) (r : Record) (held : s.record? i = some r) : Deed s ((s.markHeard i).reactivate i r)
  | call (i : Index) (inCall : Bool) : Deed s (s.modifyRecord i (fun r => { r with inCall := inCall }))
  | uplink (i : Index) (a g : Nat) : Deed s (s.applyUplink i (s.scored a g))
  | downlink (i : Index) (r : Record) (a g site : Nat) (t : Routed) (held : s.record? i = some r)
      (known : (s.neighbour? site).isSome = true)
      (routed : routeDownlink r.neighbours site (s.scored a g) (s.targetOf? r == some site) = some t) :
      Deed s (s.modifyRecord i (fun x => { x with neighbours := t.entries }))
  | levels (start : Nat) (entries : List (Nat × Nat)) :
      Deed s { s with scoring := { s.scoring with levels := writeRun s.scoring.levels start (entries.map levelStored) } }
  | penalties (start : Nat) (entries : List Nat) :
      Deed s { s with scoring := { s.scoring with penalties := writeRun s.scoring.penalties start (entries.map (clamp 0 255)) } }
  | enter (c : Fin 4) (f : RegisterFields) (t : State) (i : Index) (absent : s.find f.unit = none)
      (range : RegisterFields.inRange f = true)
      (given : s.allocate f.unit ((RadioClass.ofCode f.cls).getD .general) f.seq .active = some (t, i)) :
      Deed s (t.written c f i [] true)
  | readmit (c : Fin 4) (f : RegisterFields) (i : Index) (r : Record) (seq : Nat) (claim : Bool) (held : s.record? i = some r)
      (unit : r.unit = f.unit) (range : RegisterFields.inRange f = true) (stored : seq = r.seq ∨ seq = f.seq) :
      Deed s ((s.modifyRecord i (fun x => x.readmitted seq)).written c f i r.countedList claim)
  | release (i : Index) : Deed s (s.release i)
  | askNew (f : AskFields) (t : State) (i : Index) (absent : s.find f.unit = none)
      (range : AskFields.inRange f s.protection.site = true)
      (given : s.allocate f.unit ((RadioClass.ofCode f.cls).getD .general) f.seq .expected = some (t, i)) :
      Deed s (t.modifyRecord i (fun x => x.asked f))
  | askExpected (f : AskFields) (i : Index) (r : Record) (held : s.record? i = some r) (state : r.state = .expected)
      (range : AskFields.inRange f s.protection.site = true) : Deed s (s.modifyRecord i (fun x => x.asked f))
  | askLost (f : AskFields) (i : Index) (r : Record) (held : s.record? i = some r) (state : r.state = .lost)
      (range : AskFields.inRange f s.protection.site = true) : Deed s (s.askLost f i)
  | sweepExpiry : Deed s s.sweepExpiry
  | stamp (i : Index) (r : Record) (held : s.record? i = some r) (unvisited : r.stamp ≠ s.sweep.parity) : Deed s (s.stampVisited i)
  | shift (i : Index) : Deed s (s.modifyRecord i Record.shifted)
  | lose (i : Index) (r : Record) (held : s.record? i = some r) (state : r.state = .active) : Deed s (s.lose i r)
  | poll (p : Snapshot) (r : Record) : Deed s (s.poll p r)
  | ageEntries (i : Index) (life : Nat) : Deed s (s.modifyRecord i (fun r => r.agedEntries life))
  | decide (p : Snapshot) (i : Index) (r : Record) (held : s.record? i = some r) (state : r.state = .active) :
      Deed s (s.decideHandover p i r)
  | older (i : Index) : Deed s (s.modifyRecord i Record.older)
  | rest (i : Index) : Deed s (s.modifyRecord i (fun r => { r with history := shiftHistory r.history r.heard, heard := false }))
  | setSlot (k : Fin 12) (site : Nat) (bias : Int) (range : s.neighbourInRange k.val site = true)
      (kept : removedSite s.neighbours[k] site = none) : Deed s (s.setNeighbourSlot k (neighbourAfter s.neighbours[k] site bias))
  | replaceSlot (k : Fin 12) (site gone : Nat) (bias : Int) (range : s.neighbourInRange k.val site = true)
      (removed : removedSite s.neighbours[k] site = some gone) :
      Deed s ((s.removeSite gone).setNeighbourSlot k (neighbourAfter s.neighbours[k] site bias))
  | linkState (k : Fin 12) (n : Neighbour) (l : LinkState) (held : s.neighbours[k] = some n)
      (opened : s.ports.link.isOpen = true) : Deed s (s.setNeighbourSlot k (some { n with link := l }))
  | neighbourDown (site : Nat) : Deed s (s.neighbourDown site)
  | profileField (name : ProfileName) (code value : Nat) (range : 1 ≤ code ∧ code ≤ 15) : Deed s { s with
      profiles := s.profiles.setProfile ((s.profiles.profile name).setField (storedField code value) code) name }
  | incident (flag : Bool) : Deed s (s.setIncident flag)
  | site (n : Nat) (range : s.siteSettable n = true) (empty : s.visitors.age = []) :
      Deed s { s with protection := { s.protection with site := n } }
  | ownLocks (g : LockGroups) : Deed s (s.setOwnLocks g)
  | marks (g : LockGroups) : Deed s (s.setMarks g)
  | limits (f : LimitsFields) : Deed s { s with
      visitors := { s.visitors with reserve := limitStored 0 128 s.visitors.reserve f.reserve }
      ports := { s.ports with
        allowance := limitStored 16 1023 s.ports.allowance f.allowance
        threshold := (f.threshold.bind Threshold.ofCode).getD s.ports.threshold } }
  | siteReset : Deed s s.siteReset
  | leaveExpiry (tg : Nat) : Deed s { s with interest := s.interest.expire tg }
  | flush (time : Nat) : Deed s (s.modifyLink (fun p => { p with queue := flushOldest time p.queue }))

/-- A run of such changes. -/
abbrev Deeds : State → State → Prop := Relation.ReflTransGen Deed

theorem Deed.once {s t : State} (h : Deed s t) : Deeds s t := .single h

/-- What is kept by every change is kept by a run of them. -/
theorem Deeds.keep {P : State → Prop} (one : ∀ s t : State, Deed s t → P s → P t) {s t : State} (h : Deeds s t) (hs : P s) : P t := by
  induction h with
  | refl => exact hs
  | tail _ hd ih => exact one _ _ hd ih

/-! ## Services as runs of changes -/

/-- Two changes that come to the same of the record held are one (R1). -/
theorem State.modifyRecord_congr {s : State} {i : Index} {r : Record} (h : s.record? i = some r) {f g : Record → Record}
    (hfg : f r = g r) : s.modifyRecord i f = s.modifyRecord i g := by
  rw [State.modifyRecord_eq_set h, State.modifyRecord_eq_set h, hfg]

theorem Deeds.roomMade (s : State) (c : Fin 4) : Deeds s (s.roomMade c) := by
  unfold State.roomMade
  generalize List.finRange 8 = slots
  induction slots generalizing s with
  | nil => exact .refl
  | cons k rest ih =>
    rw [List.foldl_cons]
    split
    · exact .head (.attempt k) (ih _)
    · exact ih s

theorem Deeds.dropNotices (s : State) (n : Nat) (p : Port) : Deeds s (s.dropNotices n p) := by
  cases p with
  | maintenance => exact (Deed.dropAlarms n).once
  | link => exact (Deed.dropLink n).once
  | channel c =>
    exact .single (.channel c (fun p => { p with queue := p.queue.drop n }) fun p => ⟨List.drop_suffix n p.queue, Nat.le_refl _⟩)

theorem Deeds.fetchService (p : Port) (count : Nat) (s : State) : Deeds s (fetchService p count s).1 := by
  have hdrop := Deeds.dropNotices s (clamp 1 8 count) p
  unfold Machine.fetchService
  dsimp only
  split
  · exact hdrop
  · cases p with
    | maintenance => exact hdrop
    | link => exact hdrop
    | channel c => exact hdrop.trans (Deeds.roomMade _ c)

theorem Deeds.openService (p : Port) (s : State) : Deeds s (openService p s).1 := by
  cases p with
  | maintenance => exact .refl
  | link =>
    simp only [Machine.openService, openLinkService]
    split
    · exact .tail (Deed.closeLink .openPort).once .openLink
    · exact Deed.openLink.once
  | channel c =>
    simp only [Machine.openService, openChannelService]
    split
    · dsimp only
      have hopen : Deed s (s.modifyChannel c (fun p => { p with state := .opened, chatter := 0 })) :=
        .channel c _ fun p => ⟨List.suffix_rfl, Nat.zero_le _⟩
      exact (Deeds.roomMade _ c).head hopen
    · dsimp only
      have hempty : Deed s (s.modifyChannel c (fun p => { p with queue := [] })) :=
        .channel c _ fun p => ⟨List.nil_suffix, Nat.le_refl _⟩
      exact (Deeds.roomMade _ c).head hempty
    · exact .refl

theorem Deeds.closePort (p : Port) (cause : Kind) (s : State) : Deeds s (closePort p cause s).1 := by
  cases p with
  | maintenance => exact .refl
  | link => exact (Deed.closeLink cause).once
  | channel c => exact .single (.channel c (fun p => { p with state := .closed, queue := [] }) fun p => ⟨List.nil_suffix, Nat.le_refl _⟩)

theorem Deeds.forceCloseService (n : Nat) (s : State) : Deeds s (forceCloseService n s).1 := by
  unfold Machine.forceCloseService
  split
  · exact Deeds.closePort _ _ s
  · exact .refl

theorem ChannelPort.unmuted_less (p : ChannelPort) : p.unmuted.queue <:+ p.queue ∧ p.unmuted.chatter ≤ p.chatter := by
  unfold ChannelPort.unmuted
  split
  · exact ⟨List.suffix_rfl, Nat.zero_le _⟩
  · exact ⟨List.suffix_rfl, Nat.zero_le _⟩
  · exact ⟨List.suffix_rfl, Nat.le_refl _⟩

theorem Deeds.unmuteService (n : Nat) (s : State) : Deeds s (unmuteService n s).1 := by
  unfold Machine.unmuteService
  split
  next c _ => exact .single (.channel c ChannelPort.unmuted ChannelPort.unmuted_less)
  next => exact .refl

/-- The increments of one event touch the interest map and the alarms (R120, R124). -/
theorem State.countTalkgroups_eq (s : State) (unit : Nat) (l : List Nat) :
    (s.countTalkgroups unit l).1 = { s with
      interest := (s.countTalkgroups unit l).1.interest
      ports := { s.ports with maintenance := { s.ports.maintenance with
        alarms := (s.countTalkgroups unit l).1.ports.maintenance.alarms } } } := by
  induction l generalizing s with
  | nil => rfl
  | cons tg rest ih =>
    unfold State.countTalkgroups
    split
    · dsimp only
      rw [ih]
    · rw [ih]
      rfl

/-- The entries, the home estimate and the slot of a record outlast the arrival that marks its radio heard (R8, R56). -/
theorem State.record?_heard {s : State} {i : Index} {r : Record} (h : s.record? i = some r) :
    ∃ q, ((s.markHeard i).reactivate i r).record? i = some q ∧ q.neighbours = r.neighbours ∧ q.home = r.home ∧ q.slot = r.slot := by
  have hm : (s.markHeard i).record? i = some { r with heard := true } := by simp [h]
  unfold State.reactivate
  split
  · have hc : ((s.markHeard i).countTalkgroups r.unit r.talkgroups).1.record? i = some { r with heard := true } := by
      rw [State.countTalkgroups_eq]
      exact hm
    dsimp only
    rw [State.record?_modifyRecord, if_pos rfl, hc]
    exact ⟨_, rfl, rfl, rfl, rfl⟩
  · exact ⟨_, hm, rfl, rfl, rfl⟩

theorem Deeds.applySample {s : State} {i : Index} {q r : Record} {f : MeasureFields} (held : s.record? i = some q)
    (neighbours : q.neighbours = r.neighbours) (home : q.home = r.home) (slot : q.slot = r.slot) :
    Deeds s (applySample s i r f).1 := by
  unfold Machine.applySample
  dsimp only
  split
  · have h : s.modifyRecord i (fun x => { x with home := some ((s.scored f.attenuation f.grade).into r.home).1 }) =
        s.applyUplink i (s.scored f.attenuation f.grade) := State.modifyRecord_congr held (by rw [home])
    dsimp only
    rw [h]
    exact (Deed.uplink ..).once
  · split
    · exact .refl
    · rename_i hsite
      split
      · exact .refl
      · rename_i t ht
        refine .single (.downlink i q f.attenuation f.grade f.site t held ?_ ?_)
        · simpa [Option.isSome_iff_ne_none] using (not_or.mp hsite).2
        · have htarget : s.targetOf? q = s.targetOf? r := by simp only [State.targetOf?, slot]
          rw [neighbours, htarget]
          exact ht

theorem Deeds.measureService (f : MeasureFields) (s : State) : Deeds s (measureService f s).1 := by
  unfold Machine.measureService
  split
  next => exact .refl
  next i r hfind =>
    obtain ⟨held, -⟩ := State.find_eq_some hfind
    obtain ⟨q, hq, hn, hh, hs⟩ := State.record?_heard held
    exact (Deeds.applySample hq hn hh hs).head (.hear i r held)

theorem Deeds.loadLevelsService (start : Nat) (entries : List (Nat × Nat)) (s : State) :
    Deeds s (loadLevelsService start entries s).1 := (Deed.levels start entries).once

theorem Deeds.loadErrorsService (start : Nat) (entries : List Nat) (s : State) :
    Deeds s (loadErrorsService start entries s).1 := (Deed.penalties start entries).once

theorem Deeds.refreshHeld (s : State) (i : Index) : Deeds s (s.refreshHeld i) := by
  unfold State.refreshHeld
  split
  next k _ => exact (Deed.attempt k).once
  next => exact .refl

/-- The record that an allocation gives holds what allocation fills it with (R16). -/
theorem State.record?_allocate {s t : State} {unit seq : Nat} {cls : RadioClass} {state : RecordState} {i : Index}
    (h : s.allocate unit cls seq state = some (t, i)) :
    t.record? i = some (Record.fresh unit cls seq state s.sweep.parity) := by
  rcases s.allocate_cases unit cls seq state with ⟨j, rest, -, -, he⟩ | ⟨-, j, -, he⟩ | ⟨-, -, he⟩
  · rw [he] at h
    cases h
    simp [State.record?, VisitorTable.occupy]
  · rw [he] at h
    cases h
    simp [State.record?, VisitorTable.occupy]
  · rw [he] at h
    cases h

theorem State.accept_fst (s : State) (c : Fin 4) (f : RegisterFields) (i : Index) (old : List Nat) (claim : Bool)
    (registration : Registration) (cancel : Option Fate) :
    (s.accept c f i old claim registration cancel).1 = (s.written c f i old claim).refreshHeld i := rfl

theorem Deeds.accept_readmitted {s : State} {i : Index} {r : Record} {f : RegisterFields} {seq : Nat} (held : s.record? i = some r)
    (unit : r.unit = f.unit) (range : RegisterFields.inRange f = true) (stored : seq = r.seq ∨ seq = f.seq) (c : Fin 4)
    {old : List Nat} (hold : old = r.countedList) (claim : Bool) (registration : Registration) (cancel : Option Fate) :
    Deeds s (((s.modifyRecord i (fun x => x.readmitted seq)).accept c f i old claim registration cancel).1) := by
  subst hold
  rw [State.accept_fst]
  exact (Deeds.refreshHeld _ i).head (.readmit c f i r seq claim held unit range stored)

theorem Record.readmitted_of_counted {r : Record} (h : r.state = .active ∨ r.state = .transit) (seq : Nat) :
    r.readmitted seq = { r with seq := seq } := by
  rcases h with h | h <;> simp [Record.readmitted, h]

theorem Record.countedList_of_counted {r : Record} (h : r.state = .active ∨ r.state = .transit) :
    r.countedList = r.talkgroups := if_pos ((Record.counted_iff r).mpr h)

/-- A refreshed record is written with the sequence it has (R52, R54). -/
theorem Deeds.accept_equal {s : State} {i : Index} {r : Record} {f : RegisterFields} (held : s.record? i = some r)
    (unit : r.unit = f.unit) (range : RegisterFields.inRange f = true) (state : r.state = .active ∨ r.state = .transit) (c : Fin 4)
    (claim : Bool) (registration : Registration) (cancel : Option Fate) :
    Deeds s (s.accept c f i r.talkgroups claim registration cancel).1 := by
  have h := Deeds.accept_readmitted held unit range (Or.inl rfl) c (Record.countedList_of_counted state).symm claim registration cancel
  rwa [State.modifyRecord_eq_self held (by rw [Record.readmitted_of_counted state])] at h

/-- A renewed record is written with the sequence of the request (R53, R54). -/
theorem Deeds.accept_newer {s : State} {i : Index} {r : Record} {f : RegisterFields} (held : s.record? i = some r)
    (unit : r.unit = f.unit) (range : RegisterFields.inRange f = true) (state : r.state = .active ∨ r.state = .transit) (c : Fin 4)
    (claim : Bool) (registration : Registration) (cancel : Option Fate) :
    Deeds s ((s.storeSeq i f.seq).accept c f i r.talkgroups claim registration cancel).1 := by
  have h := Deeds.accept_readmitted held unit range (Or.inr rfl) c (Record.countedList_of_counted state).symm claim registration cancel
  rwa [State.modifyRecord_congr held (g := fun r => { r with seq := f.seq }) (Record.readmitted_of_counted state f.seq)] at h

theorem Deeds.offer (s : State) (n : LinkNotice) : Deeds s (s.offer n).1 := by
  rw [State.offer_eq]
  exact (Deed.offer n).once

theorem Deeds.offerCancel (s : State) (k : Fin 8) : Deeds s (s.offerCancel k).1 := by
  unfold State.offerCancel
  split
  · exact .refl
  · exact Deeds.offer s _

theorem Deeds.failWithCancel (s : State) (k : Fin 8) (cooldown : Bool) : Deeds s (s.failWithCancel k cooldown).1 :=
  (Deeds.offerCancel s k).tail (.fail k cooldown)

/-- The CANCEL of a transaction that fails touches the link queue only. -/
theorem State.offerCancel_frame (s : State) (k : Fin 8) :
    (s.offerCancel k).1 = { s with ports := { s.ports with link := { s.ports.link with
      queue := (s.offerCancel k).1.ports.link.queue } } } := by
  unfold State.offerCancel
  split
  · rfl
  · dsimp only
    rw [State.offer_eq]
    exact State.offered_eq s _

theorem State.record?_failed (s : State) (k : Fin 8) (x : Transaction) (cooldown : Option Nat) (i : Index) :
    (s.failed k x cooldown).record? i =
      if i = x.record then (s.record? x.record).map (fun r => r.afterFailure x.target cooldown) else s.record? i :=
  s.record?_modifyRecord x.record i (fun r => r.afterFailure x.target cooldown)

/-- A supersession leaves a TRANSIT record ACTIVE or TRANSIT, with its unit ID and its talkgroups (R108, R110). -/
theorem State.record?_supersede {s : State} {i : Index} {r : Record} (held : s.record? i = some r) (state : r.state = .transit) :
    ∃ q, (s.supersede r).1.record? i = some q ∧ q.unit = r.unit ∧ q.talkgroups = r.talkgroups ∧ q.seq = r.seq
      ∧ (q.state = .active ∨ q.state = .transit) := by
  unfold State.supersede
  split
  next k _ =>
    have ho : (s.offerCancel k).1.record? i = some r := by rw [State.offerCancel_frame]; exact held
    simp only [State.failWithCancel]
    cases hx : (s.offerCancel k).1.handover.slots[k].transaction with
    | none =>
      rw [State.failTransaction_free hx]
      exact ⟨r, ho, rfl, rfl, rfl, Or.inr state⟩
    | some x =>
      rw [State.failTransaction_eq hx, State.record?_failed]
      split
      next hi =>
        rw [← hi, ho]
        exact ⟨_, rfl, rfl, rfl, rfl, Or.inl rfl⟩
      next => exact ⟨r, ho, rfl, rfl, rfl, Or.inr state⟩
  next => exact ⟨r, held, rfl, rfl, rfl, Or.inr state⟩

theorem Deeds.supersede (s : State) (r : Record) : Deeds s (s.supersede r).1 := by
  unfold State.supersede
  split
  · exact Deeds.failWithCancel s _ false
  · exact .refl

theorem Deeds.registerNew {c : Fin 4} {f : RegisterFields} {s : State} (absent : s.find f.unit = none)
    (range : RegisterFields.inRange f = true) : Deeds s (registerNew c f s).1 := by
  unfold Machine.registerNew
  split
  next => exact (Deed.alarm _ _).once
  next t i given =>
    rw [State.accept_fst]
    exact (Deeds.refreshHeld _ i).head (.enter c f t i absent range given)

theorem Deeds.registerTransit {c : Fin 4} {f : RegisterFields} {i : Index} {r : Record} {s : State} (held : s.record? i = some r)
    (unit : r.unit = f.unit) (range : RegisterFields.inRange f = true) (state : r.state = .transit) :
    Deeds s (registerTransit c f i r s).1 := by
  unfold Machine.registerTransit
  split
  · exact Deeds.accept_equal held unit range (Or.inr state) c _ _ _
  · obtain ⟨q, hq, hunit, htgs, -, hstate⟩ := State.record?_supersede held state
    have h := Deeds.accept_newer hq (hunit.trans unit) range hstate c true .superseded (s.supersede r).2
    rw [htgs] at h
    exact (Deeds.supersede s r).trans h
  · exact .refl

theorem Deeds.registerActive {c : Fin 4} {f : RegisterFields} {i : Index} {r : Record} {s : State} (held : s.record? i = some r)
    (unit : r.unit = f.unit) (range : RegisterFields.inRange f = true) (state : r.state = .active) :
    Deeds s (registerActive c f i r s).1 := by
  unfold Machine.registerActive
  split
  · exact Deeds.accept_equal held unit range (Or.inl state) c _ _ _
  · exact Deeds.accept_newer held unit range (Or.inl state) c _ _ _
  · exact .refl

theorem Deeds.registerService {f : RegisterFields} {s : State} {c : Fin 4} (range : RegisterFields.inRange f = true) :
    Deeds s (registerService f s c).1 := by
  unfold Machine.registerService
  split
  next absent => exact Deeds.registerNew absent range
  next i r hfind =>
    obtain ⟨held, unit⟩ := State.find_eq_some hfind
    have huncounted : r.state = .expected ∨ r.state = .lost → [] = r.countedList := by
      rintro (h | h) <;> simp [Record.countedList, Record.counted, h]
    cases state : r.state with
    | expected =>
      have h := Deeds.accept_readmitted held unit range (Or.inr rfl) c (huncounted (Or.inl state)) true .arrived none
      rwa [State.modifyRecord_congr held (g := fun r => { r with state := .active, seq := f.seq, origin := none })
        (by simp [Record.readmitted, state])] at h
    | active => exact Deeds.registerActive held unit range state
    | transit => exact Deeds.registerTransit held unit range state
    | lost =>
      have h := Deeds.accept_readmitted held unit range (Or.inr rfl) c (huncounted (Or.inr state))
        (relation r.seq f.seq f.fresh == .newer) .reactivated none
      rwa [State.modifyRecord_congr held (g := fun r => { r with state := .active, history := allHeard, seq := f.seq })
        (by simp [Record.readmitted, state])] at h

theorem Deeds.deregisterService (unit : Nat) (s : State) : Deeds s (deregisterService unit s).1 := by
  unfold Machine.deregisterService
  split
  next => exact .refl
  next i r _ =>
    refine Relation.ReflTransGen.tail ?_ (Deed.release i)
    unfold State.offerRecordCancel
    split
    · exact Deeds.offerCancel s _
    · exact .refl

theorem Deeds.markCall {s : State} {i : Index} {r : Record} (held : s.record? i = some r) (inCall : Bool) :
    Deeds s (s.markCall i r inCall) := by
  have h : (s.modifyRecord i (fun r => { r with inCall := inCall })).record? i = some { r with inCall := inCall } := by
    rw [State.record?_modifyRecord, if_pos rfl, held]
    rfl
  exact .head (.call i inCall) (Deed.hear i _ h).once

theorem Deeds.callStartService (unit : Nat) (s : State) : Deeds s (callStartService unit s).1 := by
  unfold Machine.callStartService
  split
  next => exact .refl
  next i r hfind => exact Deeds.markCall (State.find_eq_some hfind).1 true

theorem Deeds.callEndService (unit : Nat) (s : State) : Deeds s (callEndService unit s).1 := by
  unfold Machine.callEndService
  split
  next => exact .refl
  next i r hfind =>
    refine (Deeds.markCall (State.find_eq_some hfind).1 false).trans ?_
    unfold State.callEnded
    split
    next k _ => exact (Deed.attempt k).once
    next => exact .refl

theorem Deeds.claimInService (f : ClaimFields) (s : State) : Deeds s (claimInService f s).1 := by
  unfold Machine.claimInService
  split
  next => exact .refl
  next i r _ =>
    split
    · exact (Deed.release i).once
    · exact Deeds.offer s _

theorem Deeds.askInService {f : AskFields} {s : State} (range : AskFields.inRange f s.protection.site = true) :
    Deeds s (askInService f s).1 := by
  unfold Machine.askInService
  split
  next absent =>
    unfold askNew
    split
    next => exact (Deed.alarm _ _).once
    next t i given => exact (Deed.askNew f t i absent range given).once
  next i r hfind =>
    obtain ⟨held, -⟩ := State.find_eq_some hfind
    dsimp only
    split
    next state => exact (Deed.askExpected f i r held state range).once
    next state => exact (Deed.askLost f i r held state range).once
    next => exact .refl
    next => exact .refl

theorem Deeds.answerService (f : AnswerFields) (s : State) : Deeds s (answerService f s).1 := by
  unfold Machine.answerService
  split
  next => exact .refl
  next k _ =>
    split
    · split
      · exact (Deed.attempt k).once
      · exact (Deed.fail k true).once
    · exact .refl

theorem Deeds.setProfileFieldService {profile code value : Nat} {s : State} (range : profileFieldInRange profile code = true) :
    Deeds s (setProfileFieldService profile code value s).1 := by
  unfold Machine.setProfileFieldService
  split
  next => exact .refl
  next name _ =>
    have hcode : 1 ≤ code ∧ code ≤ 15 := by
      rw [profileFieldInRange, Bool.and_eq_true] at range
      exact of_decide_eq_true range.2
    exact (Deed.profileField name code value hcode).once

theorem slotOfNumber_eq_some {bound n : Nat} {k : Fin bound} : slotOfNumber bound n = some k ↔ k.val = n := by
  unfold slotOfNumber
  split
  next h => rw [Option.some.injEq, Fin.ext_iff]; exact eq_comm
  next h => exact ⟨fun he => (nomatch he), fun he => absurd (he ▸ k.isLt) h⟩

theorem Deeds.setNeighbourService {slot site : Nat} {bias : Int} {s : State} (range : s.neighbourInRange slot site = true) :
    Deeds s (setNeighbourService slot site bias s).1 := by
  unfold Machine.setNeighbourService
  split
  next => exact .refl
  next k hk =>
    obtain rfl := slotOfNumber_eq_some.mp hk
    dsimp only
    split
    next kept => exact (Deed.setSlot k site bias range kept).once
    next gone removed => exact (Deed.replaceSlot k site gone bias range removed).once

theorem Deeds.linkStatusService {site code : Nat} {s : State} (opened : s.ports.link.isOpen = true) :
    Deeds s (linkStatusService site code s).1 := by
  unfold Machine.linkStatusService
  split
  next => exact .refl
  next l _ =>
    split
    next => exact .refl
    next k _ =>
      split
      next => exact .refl
      next n held =>
        have hset := Deed.linkState k n l held opened
        unfold linkStatusOn
        dsimp only
        split
        · exact .head hset (Deed.neighbourDown n.site).once
        · exact hset.once

theorem Deeds.setSiteService {site : Nat} {s : State} (range : s.siteSettable site = true) : Deeds s (setSiteService site s).1 := by
  unfold Machine.setSiteService
  split
  next h => exact (Deed.site site range (List.isEmpty_iff.mp h)).once
  next => exact .refl

theorem Deeds.setLimitsService (f : LimitsFields) (s : State) : Deeds s (setLimitsService f s).1 := (Deed.limits f).once

theorem Deeds.answerExpiry (s : State) (k : Fin 8) : Deeds s (s.answerExpiry k) := by
  unfold State.answerExpiry
  split
  · exact Deeds.failWithCancel s k true
  · exact .refl

theorem Deeds.holdExpiry (s : State) (k : Fin 8) : Deeds s (s.holdExpiry k) := by
  unfold State.holdExpiry
  split
  · exact Deeds.failWithCancel s k true
  · exact .refl

theorem Deeds.claimExpiry (s : State) (k : Fin 8) : Deeds s (s.claimExpiry k) := by
  unfold State.claimExpiry
  split
  · exact Deeds.failWithCancel s k true
  · exact .refl

/-! ## A visit as a run of changes -/

/-- A visit takes an unvisited record: it has the other stamp (R73). -/
theorem State.stamp_of_nextVisit? {s : State} {i : Index} {r : Record} (h : s.nextVisit? = some (i, r)) : r.stamp ≠ s.sweep.parity := by
  obtain ⟨j, _, hj⟩ := List.exists_of_findSome?_eq_some h
  obtain ⟨q, hq, hsome⟩ := Option.bind_eq_some_iff.mp hj
  split at hsome
  next hne => cases hsome; exact hne
  next => cases hsome

theorem State.poll_record (s : State) (p : Snapshot) (r : Record) (i : Index) : (s.poll p r).record? i = s.record? i := by
  unfold State.poll
  split
  · rfl
  · split
    · rfl
    · rfl

/-- The visit of an ACTIVE record, its stamp set: it goes LOST, or it is polled and decided on (R78 to R86). -/
theorem Deeds.visitActive {s : State} {i : Index} {r : Record} (p : Snapshot) (stamp : Parity)
    (held : s.record? i = some { r with stamp := stamp }) (state : r.state = .active) : Deeds s (s.visitActive p i r) := by
  have hshifted : (s.modifyRecord i Record.shifted).record? i = some { r.shifted with stamp := stamp } := by
    rw [State.record?_modifyRecord, if_pos rfl, held]
    rfl
  refine .head (.shift i) ?_
  unfold State.visitActive
  dsimp only
  split
  · exact Deed.once (.lose i { r.shifted with stamp := stamp } hshifted state)
  · refine .head (.poll p r.shifted) (.head (.ageEntries i p.estimateLife) ?_)
    split
    · exact .refl
    · refine Deed.once (.decide p i { r.shifted.agedEntries p.estimateLife with stamp := stamp } ?_ state)
      rw [State.record?_modifyRecord, if_pos rfl, State.poll_record, hshifted]
      rfl

theorem Deeds.visitLost (s : State) (p : Snapshot) (i : Index) (r : Record) : Deeds s (s.visitLost p i r) := by
  have holder : Deeds s (s.modifyRecord i (fun r => { r.older with history := shiftHistory r.history r.heard, heard := false })) := by
    have h := (Deed.older (s := s) i).once.tail (.rest i)
    rwa [State.modifyRecord_modifyRecord] at h
  unfold State.visitLost
  dsimp only
  split
  · exact holder.tail (.release i)
  · exact holder

theorem Deeds.visitExpected (s : State) (p : Snapshot) (i : Index) (r : Record) : Deeds s (s.visitExpected p i r) := by
  unfold State.visitExpected
  dsimp only
  split
  · exact (Deed.older i).once.tail (.release i)
  · exact (Deed.older i).once

theorem Deeds.visitTransit (s : State) (p : Snapshot) (i : Index) : Deeds s (s.visitTransit p i) := by
  have h := (Deed.shift (s := s) i).once.tail (.ageEntries i p.estimateLife)
  rwa [State.modifyRecord_modifyRecord] at h

theorem Deeds.visitNext (s : State) : Deeds s s.visitNext := by
  unfold State.visitNext
  split
  next p i r _ _ hnext =>
    have held := State.record?_of_nextVisit? hnext
    refine .head (.stamp i r held (State.stamp_of_nextVisit? hnext)) ?_
    dsimp only
    split
    next state =>
      refine Deeds.visitActive p s.sweep.parity ?_ state
      have hstamped : (s.stampVisited i).record? i = (s.modifyRecord i (fun r => { r with stamp := s.sweep.parity })).record? i := rfl
      rw [hstamped, State.record?_modifyRecord, if_pos rfl, held]
      rfl
    next => exact Deeds.visitTransit _ p i
    next => exact Deeds.visitLost _ p i r
    next => exact Deeds.visitExpected _ p i r
  next => exact .refl

/-! ## A step -/

/-- What the end of a step makes of a run of changes: the grants and lines that follow, and at most one confirmation. -/
def Concluded (s t : State) : Prop :=
  ∃ u, Deeds s u ∧ (t = u.settle ∨ ∃ (p : Port) (c : Confirmation), t = u.settle.confirm p c)

theorem Concluded.event {s : State} {f : State → State} (pin : s.resetPinLow = false) {t : State}
    (h : Machine.event f s = .next t) (deeds : Deeds s (f s)) : Concluded s t := by
  rw [event_eq pin] at h
  cases h
  exact ⟨_, deeds, Or.inl rfl⟩

/-- Step 4 of the order of checks raises the chatter count, or mutes the port, or does nothing (R169, R170). -/
theorem Deeds.chatterTest (s : State) (k : Kind) (p : Port) : Deeds s (s.chatterTest k p).1 := by
  unfold State.chatterTest
  split
  · split
    next c =>
      unfold State.countChatter
      split
      next below => exact (Deed.chatter c below).once
      next =>
        have hmute : Deed s (s.modifyChannel c (fun p => { p with state := .muted })) :=
          .channel c _ fun p => ⟨List.suffix_rfl, Nat.le_refl _⟩
        exact .head hmute (Deed.alarm _ _).once
    next => exact .refl
    next => exact .refl
  · exact .refl

theorem State.inRange_of_lateRefusal {s : State} {k : Kind} {p : Port} {locked inRange : Bool}
    (h : s.lateRefusal k p locked inRange = none) : inRange = true := by
  unfold State.lateRefusal at h
  split at h
  · cases h
  · split at h
    · cases h
    · simpa using h

/-- A request is its step 4 and, past every check, its service (R168). -/
theorem Concluded.request {s t : State} {k : Kind} {p : Port} {sized locked inRange : Bool} {own : State → Served}
    (pin : s.resetPinLow = false) (h : Machine.request k p sized locked inRange own s = .next t)
    (service : s.earlyRefusal k p sized = none → inRange = true → Deeds (s.chatterTest k p).1 (own (s.chatterTest k p).1).1) :
    Concluded s t := by
  have hchecked : Deeds s (s.checked k p sized locked inRange own).1 := by
    unfold State.checked
    split
    · exact .refl
    next early =>
      dsimp only
      split
      · split
        · exact Deeds.chatterTest s k p
        next late =>
          exact (Deeds.chatterTest s k p).trans (service early (State.inRange_of_lateRefusal late))
      · exact Deeds.chatterTest s k p
  simp only [Machine.request, pin] at h
  cases h
  exact ⟨_, hchecked, Or.inr ⟨_, _, rfl⟩⟩

/-- A request that step 4 of the order of checks does not touch is its service past every check (R168). -/
theorem Concluded.uncounted {s t : State} {k : Kind} {p : Port} {sized locked inRange : Bool} {own : State → Served}
    (pin : s.resetPinLow = false) (hk : kindCounted k = false) (h : Machine.request k p sized locked inRange own s = .next t)
    (service : s.earlyRefusal k p sized = none → inRange = true → Deeds s (own s).1) : Concluded s t :=
  Concluded.request pin h (by rw [State.chatterTest_uncounted hk]; exact service)

theorem Deeds.onChannel {p : Port} {s : State} {own : Fin 4 → Served} (h : ∀ c, Deeds s (own c).1) :
    Deeds s (onChannel p s own).1 := by
  cases p with
  | channel c => exact h c
  | link => exact .refl
  | maintenance => exact .refl

/-- A LINK STATUS passes the checks on an OPEN link port only (R166, R168). -/
theorem State.isOpen_of_linkStatus {s : State} {p : Port} (h : s.earlyRefusal .linkStatus p true = none) :
    s.ports.link.isOpen = true := by
  unfold State.earlyRefusal at h
  split at h
  · cases h
  · cases p with
    | maintenance => cases h
    | channel c => cases h
    | link =>
      cases hopen : s.ports.link.isOpen with
      | true => rfl
      | false => simp [kindAdmitted, State.portState, hopen, portRefusal] at h

/-- Every request ends its step behind a run of changes (R160, R168). -/
theorem Concluded.command {r : Request} {p : Port} {s t : State} (pin : s.resetPinLow = false)
    (h : exec (r.command p) s = .next t) : Concluded s t := by
  cases r with
  | fetch count => exact Concluded.uncounted pin rfl h fun _ _ => Deeds.fetchService p count s
  | openPort => exact Concluded.uncounted pin rfl h fun _ _ => Deeds.openService p s
  | closePort => exact Concluded.uncounted pin rfl h fun _ _ => Deeds.closePort p .closePort s
  | register f =>
    exact Concluded.request pin h fun _ range => Deeds.onChannel fun _ => Deeds.registerService range
  | deregister unit =>
    exact Concluded.uncounted pin rfl h fun _ _ => Deeds.onChannel fun _ => Deeds.deregisterService unit s
  | measure f => exact Concluded.request pin h fun _ _ => Deeds.onChannel fun _ => Deeds.measureService f _
  | callStart unit => exact Concluded.request pin h fun _ _ => Deeds.onChannel fun _ => Deeds.callStartService unit _
  | callEnd unit => exact Concluded.request pin h fun _ _ => Deeds.onChannel fun _ => Deeds.callEndService unit _
  | claimIn f => exact Concluded.uncounted pin rfl h fun _ _ => Deeds.claimInService f s
  | askIn f => exact Concluded.uncounted pin rfl h fun _ range => Deeds.askInService range
  | answer f => exact Concluded.uncounted pin rfl h fun _ _ => Deeds.answerService f s
  | linkStatus site state =>
    exact Concluded.uncounted pin rfl h fun early _ => Deeds.linkStatusService (State.isOpen_of_linkStatus early)
  | setProfileField profile code value =>
    exact Concluded.uncounted pin rfl h fun _ range => Deeds.setProfileFieldService range
  | loadLevelTable start entries => exact Concluded.uncounted pin rfl h fun _ _ => Deeds.loadLevelsService start entries s
  | loadErrorTable start entries => exact Concluded.uncounted pin rfl h fun _ _ => Deeds.loadErrorsService start entries s
  | setNeighbour slot site bias => exact Concluded.uncounted pin rfl h fun _ range => Deeds.setNeighbourService range
  | setLimits f => exact Concluded.uncounted pin rfl h fun _ _ => Deeds.setLimitsService f s
  | setSite site => exact Concluded.uncounted pin rfl h fun _ range => Deeds.setSiteService range
  | lock groups => exact Concluded.uncounted pin rfl h fun _ _ => (Deed.ownLocks _).once
  | unlock groups => exact Concluded.uncounted pin rfl h fun _ _ => (Deed.ownLocks _).once
  | setIncidentLocks groups => exact Concluded.uncounted pin rfl h fun _ _ => (Deed.marks _).once
  | declareIncident => exact Concluded.uncounted pin rfl h fun _ _ => (Deed.incident true).once
  | standDown => exact Concluded.uncounted pin rfl h fun _ _ => (Deed.incident false).once
  | siteReset force => exact Concluded.uncounted pin rfl h fun _ _ => Deed.siteReset.once
  | unmute port => exact Concluded.uncounted pin rfl h fun _ _ => Deeds.unmuteService port s
  | forceClose port => exact Concluded.uncounted pin rfl h fun _ _ => Deeds.forceCloseService port s
  | readRecord unit =>
    refine Concluded.uncounted pin rfl h fun _ _ => ?_
    unfold readRecordService
    split
    · exact .refl
    · exact .refl
  | siteStatus => exact Concluded.uncounted pin rfl h fun _ _ => .refl

/-- A frame that passes FORMAT is served as the command that it carries (R188). -/
theorem serveRequest_eq (p : Port) (r : Request) (s : State) : serveRequest p r s = exec (r.command p) s := by
  cases r <;> rfl

/-- A raw frame is ignored, or ends its step as a request does (R187, R188). -/
theorem Concluded.format {p : Port} {bits : List Bool} {early : Bool} {s t : State} (pin : s.resetPinLow = false)
    (h : execFormat p bits early s = .next t) : t = s ∨ Concluded s t := by
  have hrefused : ∀ kind : Byte, refuseFormat p kind s = .next t → Concluded s t := fun kind h => by
    cases h
    exact ⟨s, .refl, Or.inr ⟨p, _, rfl⟩⟩
  simp only [execFormat, pin, Bool.false_eq_true, if_false] at h
  split at h
  · cases h
    exact Or.inl rfl
  · right
    split at h
    · exact hrefused _ h
    · split at h
      · exact hrefused _ h
      · exact Concluded.command pin (serveRequest_eq .. ▸ h)

theorem event_pinLow {s : State} {f : State → State} (pin : s.resetPinLow = true) : event f s = .next s := by
  simp [event, pin]

/-- While the RESET pin is low nothing but the pin itself does anything (R184). -/
theorem exec_pinLow {c : Instr} {s : State} (pin : s.resetPinLow = true) (hon : c ≠ .powerOn) (hlow : c ≠ .resetPinLow) :
    exec c s = .next s := by
  cases c with
  | powerOn => exact absurd rfl hon
  | resetPinLow => exact absurd rfl hlow
  | format p bits early => simp [exec, execFormat, pin]
  | sweepTimerExpiry => exact event_pinLow pin
  | visit => exact event_pinLow pin
  | answerTimerExpiry k => exact event_pinLow pin
  | holdTimerExpiry k => exact event_pinLow pin
  | claimTimerExpiry k => exact event_pinLow pin
  | leaveTimerExpiry tg => simp only [exec, execLeaveTimerExpiry, event_pinLow pin]
  | linkFlushTimeout => simp only [exec, execLinkFlushTimeout, event_pinLow pin]
  | confirmationClockedOut p => simp only [exec, execConfirmationClockedOut, event_pinLow pin]
  | _ => exact request_pinLow pin

theorem Instr.eq_command {c : Instr} {p : Port} {r : Request} (h : c.request? = some (p, r)) : c = r.command p := by
  cases c <;> cases h <;> rfl

/-- What an event of the engine does with the RESET pin high. -/
theorem Concluded.of_event {c : Instr} {s t : State} (pin : s.resetPinLow = false) (hevent : c.request? = none)
    (hformat : ∀ p bits early, c ≠ .format p bits early) (hlow : c ≠ .resetPinLow) (hon : c ≠ .powerOn)
    (h : exec c s = .next t) : Concluded s t := by
  cases c with
  | format p bits early => exact absurd rfl (hformat p bits early)
  | resetPinLow => exact absurd rfl hlow
  | powerOn => exact absurd rfl hon
  | sweepTimerExpiry => exact Concluded.event pin h Deed.sweepExpiry.once
  | visit => exact Concluded.event pin h (Deeds.visitNext s)
  | answerTimerExpiry k => exact Concluded.event pin h (Deeds.answerExpiry s k)
  | holdTimerExpiry k => exact Concluded.event pin h (Deeds.holdExpiry s k)
  | claimTimerExpiry k => exact Concluded.event pin h (Deeds.claimExpiry s k)
  | leaveTimerExpiry tg => unfold exec execLeaveTimerExpiry at h; exact Concluded.event pin h (Deed.leaveExpiry tg).once
  | linkFlushTimeout => unfold exec execLinkFlushTimeout at h; exact Concluded.event pin h (Deed.flush s.selected.flushTime).once
  | confirmationClockedOut p =>
    unfold exec execConfirmationClockedOut at h
    exact Concluded.event pin h (Deed.outbound (s.outbound p).tail p).once
  | _ => cases hevent

/-- What a command does: nothing, the RESET pin's two effects, or with the pin high a run of changes and the end of the step. -/
theorem exec_cases {c : Instr} {s t : State} (h : exec c s = .next t) :
    t = s ∨ t = s.pinLow ∨ t = { State.reset with pending := s.pending } ∨ Concluded s t := by
  by_cases hlow : c = .resetPinLow
  · subst hlow
    cases h
    exact Or.inr (Or.inl rfl)
  by_cases hon : c = .powerOn
  · subst hon
    cases h
    exact Or.inr (Or.inr (Or.inl rfl))
  cases pin : s.resetPinLow with
  | true =>
    rw [exec_pinLow pin hon hlow] at h
    cases h
    exact Or.inl rfl
  | false =>
    cases hr : c.request? with
    | some q => exact Or.inr (Or.inr (Or.inr (Concluded.command pin (Instr.eq_command hr ▸ h))))
    | none =>
      by_cases hformat : ∃ p bits early, c = .format p bits early
      · obtain ⟨p, bits, early, rfl⟩ := hformat
        exact (Concluded.format pin h).imp_right fun hc => Or.inr (Or.inr hc)
      · exact Or.inr (Or.inr (Or.inr
          (Concluded.of_event pin hr (fun p bits early hc => hformat ⟨p, bits, early, hc⟩) hlow hon h)))

/-- A fact that every step keeps: what holds between steps, and what holds while a step is at work. -/
structure Invariant (between within : State → Prop) : Prop where
  start : ∀ s, between s → within s
  pending : ∀ s l, between s → between { s with pending := l }
  pinLow : ∀ s, between s → between s.pinLow
  powerOn : ∀ l, between { State.reset with pending := l }
  tick : ∀ s, s.resetPinLow = false → between s → between s.tick
  deed : ∀ s t, Deed s t → within s → within t
  settle : ∀ s, within s → between s.settle
  confirm : ∀ s p c, between s → between (s.confirm p c)

theorem Invariant.concluded {between within : State → Prop} (inv : Invariant between within) {s t : State} (h : Concluded s t)
    (hs : between s) : between t := by
  obtain ⟨u, deeds, hend⟩ := h
  have hu := inv.settle u (deeds.keep inv.deed (inv.start s hs))
  rcases hend with rfl | ⟨p, c, rfl⟩
  · exact hu
  · exact inv.confirm _ p c hu

/-- Every step keeps an invariant. -/
theorem Invariant.step {between within : State → Prop} (inv : Invariant between within) {s t : State} (h : Machine.step s = .next t)
    (hs : between s) : between t := by
  unfold Machine.step at h
  split at h
  · cases h
    cases pin : s.resetPinLow with
    | false => exact inv.tick s pin hs
    | true => rwa [State.tick, if_pos pin]
  next c rest _ =>
    have hu := inv.pending s rest hs
    rcases exec_cases h with rfl | rfl | rfl | hrun
    · exact hu
    · exact inv.pinLow _ hu
    · exact inv.powerOn rest
    · exact inv.concluded hrun hu

end Sys2Proof.Machine
end

section
/-! PROOF. Every step leaves the engine settled (04 R75, 07 R145, 09 R175, R176): 10 ms of time, power-on and the end of a step. -/

namespace Sys2Proof.Machine

/-- No JOIN is owed exactly when no entry owes one (R127). -/
theorem InterestMap.nextJoin?_eq_none {m : InterestMap} :
    m.nextJoin? = none ↔ ∀ k : Place, m.places[k].any MapEntry.owesJoin = false := by
  unfold InterestMap.nextJoin?
  rw [Option.bind_eq_none_iff]
  constructor
  · intro h
    refine firstPlace?_eq_none.mp (Option.eq_none_iff_forall_ne_some.mpr fun k hk => ?_)
    have howes := (firstPlace?_eq_some.mp hk).1
    rw [Option.map_eq_none_iff.mp (h k hk)] at howes
    cases howes
  · intro h k hk
    rw [firstPlace?_eq_none.mpr h] at hk
    cases hk

theorem MapEntry.owesJoin_advance (e : MapEntry) : e.advance.owesJoin = e.owesJoin := by
  unfold MapEntry.advance
  split
  · rfl
  next t h =>
    unfold MapEntry.owesJoin
    rw [h]
    rfl

theorem HandoverUnit.freeSlot?_advance (h : HandoverUnit) :
    ({ h with slots := h.slots.map Slot.advance } : HandoverUnit).freeSlot? = h.freeSlot? := by
  simp [HandoverUnit.freeSlot?, Slot.advance]

/-- Timers moved on leave nothing to grant where nothing was (R145). -/
theorem State.grantPlace_advance {s : State} (h : s.grantPlace = none) : s.advance.grantPlace = none := by
  refine State.grantPlace_eq_none.mpr fun hroom => ?_
  have hs : s.linkHasRoom = true := by simpa [State.linkHasRoom, State.advance] using hroom
  obtain ⟨hrefresh, hclaims, hleaves, hjoin, hgrant⟩ := State.grantPlace_eq_none.mp h hs
  refine ⟨hrefresh, hclaims, hleaves, InterestMap.nextJoin?_eq_none.mpr fun k => ?_, ?_⟩
  · have hk := InterestMap.nextJoin?_eq_none.mp hjoin k
    simp only [Fin.getElem_fin] at hk
    simp only [State.advance, Fin.getElem_fin, getElem_mapTable, Option.any_map]
    exact (congrArg (Option.any · _) (funext MapEntry.owesJoin_advance)).trans hk
  · have hfree : s.advance.handover.freeSlot? = s.handover.freeSlot? := HandoverUnit.freeSlot?_advance s.handover
    unfold State.nextGrant? at hgrant ⊢
    rw [hfree]
    exact hgrant

/-- The commands that wait do not bear on what is settled. -/
theorem Settled.withPending {s : State} (h : Settled s) (l : List Instr) : Settled { s with pending := l } := by
  obtain ⟨hmaintenance, hlink, hchannels⟩ := State.refreshLines_eq_iff.mp h.lines
  exact h.of_same ⟨rfl, rfl⟩ ⟨rfl, rfl, rfl⟩ rfl rfl rfl (fun _ => rfl)
    (State.refreshLines_eq_iff.mpr ⟨hmaintenance, hlink, hchannels⟩)

theorem State.tick_eq {s : State} (pin : s.resetPinLow = false) :
    s.tick = { s.advance.refreshLines with pending := s.pending ++ s.advance.engineEvents } := by
  rw [State.tick, pin]
  rfl

/-- 10 ms of time leaves the engine settled. -/
theorem Settled.tick {s : State} (pin : s.resetPinLow = false) (h : Settled s) : Settled s.tick := by
  have hadvanced : Settled s.advance.refreshLines :=
    { sweep := h.sweep
      arbiter := State.grantPlace_refreshLines_none (State.grantPlace_advance h.arbiter)
      lines := s.advance.refreshLines_idem }
  rw [State.tick_eq pin]
  exact hadvanced.withPending _

/-- Power-on leaves the engine settled: no sweep, the link port CLOSED, no queue with a notice (R184). -/
theorem settled_reset : Settled State.reset where
  sweep h := Bool.false_ne_true h.1
  arbiter := State.grantPlace_eq_none.mpr fun h => absurd h Bool.false_ne_true
  lines := State.refreshLines_eq_iff.mpr ⟨rfl, rfl, fun c => by simp [State.reset, PortUnit.reset]⟩

theorem settled_invariant : Invariant (fun s => s.resetPinLow = false → Settled s) (fun _ => True) where
  start _ _ := trivial
  pending _ l h pin := (h pin).withPending l
  pinLow _ _ pin := by cases pin
  powerOn l _ := settled_reset.withPending l
  tick _ pin h _ := (h pin).tick pin
  deed _ _ _ _ := trivial
  settle s _ _ := s.settled_settle
  confirm s p c h pin := (h (by simpa using pin)).confirm p c

/-- Settles O56: whatever a step does, its end settles the engine. -/
theorem stepKeepsSettled : Obligations.StepKeepsSettled := fun _ _ hs h pin => settled_invariant.step h hs pin

end Sys2Proof.Machine
end

section
/-! PROOF. The lookup of a unit ID in a sound table (01 R5, R6), and what it answers for a radio that no record holds. -/

namespace Sys2Proof.Machine

/-- Read at a place, a table written at a place is the value written there and the old table elsewhere. -/
theorem getElem_set_fin {α : Type} {n : Nat} (v : Vector α n) (k j : Fin n) (a : α) :
    (v.set k a)[j] = if j = k then a else v[j] := by
  simp only [Fin.getElem_fin, Vector.getElem_set, Fin.ext_iff, eq_comm]

/-- In a sound table the record that holds a unit ID is on its chain, and no other record there holds it (R5, R6). -/
theorem TableSound.lookup_eq_some {t : VisitorTable} (h : TableSound t) {unit : Nat} {i : Index} {r : Record}
    (hr : t.records[i] = some r) (hunit : r.unit = unit) : t.lookup unit = some i := by
  have hchain : i ∈ t.chains[bucketOf unit] := (h.chains.mem_iff _ i).mpr (by simp [hr, hunit])
  have hsome : (t.lookup unit).isSome = true := by
    rw [VisitorTable.lookup, List.find?_isSome]
    exact ⟨i, hchain, by simp [hr, hunit]⟩
  obtain ⟨j, hj⟩ := Option.isSome_iff_exists.mp hsome
  have htest := List.find?_some hj
  obtain ⟨q, hq, hqunit⟩ := Option.any_eq_true _ _ |>.mp htest
  rw [hj, h.units j i q r hq hr ((beq_iff_eq.mp hqunit).trans hunit.symm)]

theorem TableSound.find_iff {s : State} (h : TableSound s.visitors) (unit : Nat) (i : Index) (r : Record) :
    s.find unit = some (i, r) ↔ s.record? i = some r ∧ r.unit = unit := by
  constructor
  · exact State.find_eq_some
  · rintro ⟨hr, hunit⟩
    rw [State.find, h.lookup_eq_some hr hunit, Option.bind_some, hr]
    rfl

theorem TableSound.find_eq_none_iff {s : State} (h : TableSound s.visitors) (unit : Nat) :
    s.find unit = none ↔ ∀ (i : Index) (r : Record), s.record? i = some r → r.unit ≠ unit := by
  rw [Option.eq_none_iff_forall_ne_some]
  constructor
  · intro hnone i r hr hunit
    exact hnone (i, r) ((h.find_iff unit i r).mpr ⟨hr, hunit⟩)
  · rintro hnone ⟨i, r⟩ hfind
    obtain ⟨hr, hunit⟩ := State.find_eq_some hfind
    exact hnone i r hr hunit

end Sys2Proof.Machine
end

section
/-! PROOF. What every step keeps of the visitor table (01 R5 to R17) and of the unvisited count (04 R70): the table's own operations,
then the changes that a step is made of. -/

namespace Sys2Proof.Machine

/-! ## The table's own operations -/

/-- A sound table but for one record, which is FREE and on neither list. -/
structure TableSoundBut (t : VisitorTable) (i : Index) : Prop where
  vacant : t.records[i] = none
  freeNodup : t.free.Nodup
  ageNodup : t.age.Nodup
  free_iff : ∀ j : Index, j ∈ t.free ↔ t.records[j] = none ∧ j ≠ i
  age_iff : ∀ j : Index, j ∈ t.age ↔ t.records[j] ≠ none
  chains : ChainsExact t
  units : UnitsDistinct t

theorem TableSound.pop {t : VisitorTable} (h : TableSound t) {i : Index} {rest : List Index} (hfree : t.free = i :: rest) :
    TableSoundBut { t with free := rest } i := by
  have hnodup := h.partition.freeNodup
  rw [hfree, List.nodup_cons] at hnodup
  exact {
    vacant := (h.partition.free_iff i).mp (by simp [hfree])
    freeNodup := hnodup.2
    ageNodup := h.partition.ageNodup
    free_iff := fun j => by
      rw [← h.partition.free_iff j, hfree, List.mem_cons]
      constructor
      · exact fun hj => ⟨Or.inr hj, fun he => hnodup.1 (he ▸ hj)⟩
      · exact fun hj => hj.1.resolve_left hj.2
    age_iff := h.partition.age_iff
    chains := ⟨h.chains.nodup, h.chains.mem_iff⟩
    units := h.units }

theorem TableSound.vacate {t : VisitorTable} (h : TableSound t) {i : Index} {r : Record} (hr : t.records[i] = some r) :
    TableSoundBut (t.vacate i r.unit) i where
  vacant := by simp [VisitorTable.vacate]
  freeNodup := h.partition.freeNodup
  ageNodup := h.partition.ageNodup.filter _
  free_iff j := by
    simp only [VisitorTable.vacate, getElem_set_fin]
    rw [h.partition.free_iff j]
    by_cases hj : j = i
    · simp [hj, hr]
    · simp [hj]
  age_iff j := by
    simp only [VisitorTable.vacate, getElem_set_fin, List.mem_filter, h.partition.age_iff j]
    by_cases hj : j = i
    · simp [hj]
    · simp [hj]
  chains :=
    { nodup := fun b => by
        simp only [VisitorTable.vacate, getElem_set_fin]
        split
        · exact (h.chains.nodup _).filter _
        · exact h.chains.nodup b
      mem_iff := fun b j => by
        simp only [VisitorTable.vacate, getElem_set_fin]
        have hj := h.chains.mem_iff b j
        by_cases hij : j = i
        · subst hij
          rw [hr] at hj
          by_cases hb : b = bucketOf r.unit
          · simp [hb]
          · have hb' : ¬ bucketOf r.unit = b := fun e => hb e.symm
            simpa [hb, hb'] using hj
        · by_cases hb : b = bucketOf r.unit
          · subst hb
            simpa [hij] using hj
          · simpa [hb, hij] using hj }
  units j k q x hj hk hunit := by
    simp only [VisitorTable.vacate, getElem_set_fin] at hj hk
    split at hj
    · cases hj
    · split at hk
      · cases hk
      · exact h.units j k q x hj hk hunit

theorem TableSoundBut.push {t : VisitorTable} {i : Index} (h : TableSoundBut t i) : TableSound { t with free := t.free ++ [i] } where
  partition :=
    { freeNodup := by
        rw [List.nodup_append]
        refine ⟨h.freeNodup, List.nodup_singleton i, fun j hj k hk => ?_⟩
        rw [List.mem_singleton.mp hk]
        exact ((h.free_iff j).mp hj).2
      ageNodup := h.ageNodup
      free_iff := fun j => by
        by_cases hj : j = i
        · simp [hj, h.vacant]
        · simp [hj, h.free_iff j]
      age_iff := h.age_iff }
  chains := ⟨h.chains.nodup, h.chains.mem_iff⟩
  units := h.units

theorem TableSoundBut.occupy {t : VisitorTable} {i : Index} (h : TableSoundBut t i) {r : Record}
    (hnew : ∀ (j : Index) (q : Record), t.records[j] = some q → q.unit ≠ r.unit) : TableSound (t.occupy i r) where
  partition :=
    { freeNodup := h.freeNodup
      ageNodup := by
        rw [VisitorTable.occupy, List.nodup_append]
        refine ⟨h.ageNodup, List.nodup_singleton i, fun j hj k hk => ?_⟩
        rw [List.mem_singleton.mp hk]
        rintro rfl
        exact (h.age_iff j).mp hj h.vacant
      free_iff := fun j => by
        simp only [VisitorTable.occupy, getElem_set_fin, h.free_iff j]
        by_cases hj : j = i
        · simp [hj]
        · simp [hj]
      age_iff := fun j => by
        simp only [VisitorTable.occupy, getElem_set_fin, List.mem_append, h.age_iff j]
        by_cases hj : j = i
        · simp [hj]
        · simp [hj] }
  chains :=
    { nodup := fun b => by
        simp only [VisitorTable.occupy, getElem_set_fin]
        split
        · refine List.nodup_cons.mpr ⟨fun hi => ?_, h.chains.nodup _⟩
          have := (h.chains.mem_iff _ i).mp hi
          rw [h.vacant] at this
          cases this
        · exact h.chains.nodup b
      mem_iff := fun b j => by
        simp only [VisitorTable.occupy, getElem_set_fin]
        have hj := h.chains.mem_iff b j
        by_cases hij : j = i
        · subst hij
          rw [h.vacant] at hj
          by_cases hb : b = bucketOf r.unit
          · simp [hb]
          · have hb' : ¬ bucketOf r.unit = b := fun e => hb e.symm
            simpa [hb, hb'] using hj
        · by_cases hb : b = bucketOf r.unit
          · subst hb
            simpa [hij] using hj
          · simpa [hb, hij] using hj }
  units j k q x hj hk hunit := by
    simp only [VisitorTable.occupy, getElem_set_fin] at hj hk
    split at hj <;> split at hk
    next h1 h2 => rw [h1, h2]
    next h1 h2 =>
      cases hj
      exact absurd hunit.symm (hnew k x hk)
    next h1 h2 =>
      cases hk
      exact absurd hunit (hnew j q hj)
    next => exact h.units j k q x hj hk hunit

/-! ## Counting the records -/

/-- One place written, a count over a table changes by what that place was and is. -/
theorem countP_toList_set {α : Type} {n : Nat} (v : Vector α n) (i : Fin n) (a : α) (p : α → Bool) :
    (v.set i a).toList.countP p + (if p v[i] then 1 else 0) = v.toList.countP p + (if p a then 1 else 0) := by
  have hset := List.countP_set (p := p) (l := v.toList) (i := i.val) (a := a) (by simp)
  have hpos : p v[i] = true → 0 < v.toList.countP p := fun h => List.countP_pos_iff.mpr ⟨v[i], by simp, h⟩
  simp only [Vector.toList_set, hset, Fin.getElem_fin, Vector.getElem_toList] at hpos ⊢
  by_cases h : p v[i.val] = true
  · have := hpos h
    simp only [h, if_true]
    omega
  · simp [h]

/-- A table in the order of its places. -/
theorem toList_eq_map_finRange {α : Type} {n : Nat} (v : Vector α n) : v.toList = (List.finRange n).map (fun i => v[i]) := by
  apply List.ext_getElem
  · simp
  · intro k h1 h2
    simp

/-- The age list holds one place for each occupied record (R7, R10). -/
theorem TableSound.length_age {t : VisitorTable} (h : TableSound t) : t.age.length = t.records.toList.countP Option.isSome := by
  have hperm : t.age.Perm ((List.finRange 384).filter (fun i => t.records[i].isSome)) :=
    (List.perm_ext_iff_of_nodup h.partition.ageNodup ((List.nodup_finRange 384).filter _)).mpr fun i => by
      simp [h.partition.age_iff i, Option.isSome_iff_ne_none]
  rw [hperm.length_eq, toList_eq_map_finRange, List.countP_map, List.countP_eq_length_filter]
  rfl

/-! ## The unvisited count -/

/-- The unvisited count while a step is at work, when a sweep with nothing left to visit has not ended yet (R70, R75). -/
structure SweepCounted (s : State) : Prop where
  count : s.sweep.unvisited = s.visitors.records.toList.countP (unvisitedBy s.sweep.parity)
  idle : s.sweep.inFlight = false → s.sweep.unvisited = 0 ∧ s.sweep.due = false ∧ s.sweep.snapshot = none
  flight : s.sweep.inFlight = true → s.sweep.snapshot.isSome = true

theorem sweepExact_iff (s : State) :
    SweepExact s ↔ SweepCounted s ∧ ¬(s.sweep.inFlight = true ∧ s.sweep.unvisited = 0) := by
  constructor
  · intro h
    exact ⟨⟨h.count, h.idle, fun hf => (h.flight hf).2⟩, fun hn => absurd hn.2 (h.flight hn.1).1.ne'⟩
  · rintro ⟨h, halive⟩
    exact ⟨h.count, h.idle, fun hf => ⟨Nat.pos_of_ne_zero fun hz => halive ⟨hf, hz⟩, h.flight hf⟩⟩

/-- The visitor table is sound and the unvisited count exact, while a step is at work. -/
structure TableAtWork (s : State) : Prop where
  table : TableSound s.visitors
  sweep : SweepCounted s

/-- What leaves the table and the count as they are: the two lists of records keep their members, the chains stay, and so do the unit ID
and the stamp of every record. -/
structure TableKept (s t : State) : Prop where
  marks : ∀ i : Index, (t.record? i).map (fun r => (r.unit, r.stamp)) = (s.record? i).map (fun r => (r.unit, r.stamp))
  chains : t.visitors.chains = s.visitors.chains
  age : t.visitors.age.Perm s.visitors.age
  free : t.visitors.free = s.visitors.free
  sweep : t.sweep = s.sweep

theorem TableKept.of_eq {s t : State} (visitors : t.visitors = s.visitors) (sweep : t.sweep = s.sweep) : TableKept s t where
  marks i := by simp only [State.record?, visitors]
  chains := by rw [visitors]
  age := by rw [visitors]
  free := by rw [visitors]
  sweep := sweep

theorem TableKept.trans {a b c : State} (h : TableKept a b) (g : TableKept b c) : TableKept a c where
  marks i := (g.marks i).trans (h.marks i)
  chains := g.chains.trans h.chains
  age := g.age.trans h.age
  free := g.free.trans h.free
  sweep := g.sweep.trans h.sweep

theorem TableKept.modifyRecord (s : State) (i : Index) {f : Record → Record} (hf : ∀ r, (f r).unit = r.unit ∧ (f r).stamp = r.stamp) :
    TableKept s (s.modifyRecord i f) where
  marks j := by
    rw [State.record?_modifyRecord]
    split
    next h => subst h; cases s.record? j <;> simp [hf]
    next => rfl
  chains := rfl
  age := .refl _
  free := rfl
  sweep := rfl

theorem TableKept.mapRecords (s : State) {f : Record → Record} (hf : ∀ r, (f r).unit = r.unit ∧ (f r).stamp = r.stamp) :
    TableKept s (s.mapRecords f) where
  marks j := by rw [State.record?_mapRecords]; cases s.record? j <;> simp [hf]
  chains := rfl
  age := .refl _
  free := rfl
  sweep := rfl

theorem TableKept.toTail {s : State} (h : TableSound s.visitors) {i : Index} (hi : s.record? i ≠ none) : TableKept s (s.toTail i) where
  marks _ := rfl
  chains := rfl
  age := by
    have hmem : i ∈ s.visitors.age := (h.partition.age_iff i).mpr hi
    have hfilter : s.visitors.age.filter (fun j => j != i) = s.visitors.age.erase i := by
      rw [h.partition.ageNodup.erase_eq_filter]
    show (s.visitors.age.filter (fun j => j != i) ++ [i]).Perm s.visitors.age
    rw [hfilter]
    exact (List.perm_append_singleton i _).trans (List.perm_cons_erase hmem).symm
  free := rfl
  sweep := rfl

/-- A table keeps sound while its lists keep their members, its chains stay and every record keeps its unit ID (R5 to R11). -/
theorem TableSound.of_units {t u : VisitorTable} (h : TableSound t)
    (units : ∀ i : Index, u.records[i].map Record.unit = t.records[i].map Record.unit) (chains : u.chains = t.chains)
    (age : u.age.Perm t.age) (free : u.free = t.free) : TableSound u := by
  have hnone : ∀ i : Index, u.records[i] = none ↔ t.records[i] = none := fun i => by
    rw [← Option.map_eq_none_iff (f := Record.unit), units i, Option.map_eq_none_iff]
  have hsome : ∀ (i : Index) (r : Record), u.records[i] = some r → ∃ q, t.records[i] = some q ∧ q.unit = r.unit := fun i r hr => by
    have hi := units i
    rw [hr] at hi
    exact Option.map_eq_some_iff.mp hi.symm
  exact {
    partition :=
      { freeNodup := free ▸ h.partition.freeNodup
        ageNodup := age.nodup_iff.mpr h.partition.ageNodup
        free_iff := fun i => by rw [free, h.partition.free_iff, hnone]
        age_iff := fun i => by rw [age.mem_iff, h.partition.age_iff, ne_eq, ne_eq, hnone] }
    chains :=
      { nodup := fun b => by rw [chains]; exact h.chains.nodup b
        mem_iff := fun b i => by
          have hb : ∀ o : Option Record, o.any (fun r => bucketOf r.unit == b) = (o.map Record.unit).any (fun u => bucketOf u == b) :=
            fun o => by cases o <;> rfl
          rw [chains, h.chains.mem_iff, hb, hb, units] }
    units := fun i j r q hr hq hu => by
      obtain ⟨r', hr', hru⟩ := hsome i r hr
      obtain ⟨q', hq', hqu⟩ := hsome j q hq
      exact h.units i j r' q' hr' hq' (hru.trans (hu.trans hqu.symm)) }

theorem TableKept.table {s t : State} (k : TableKept s t) (h : TableSound s.visitors) : TableSound t.visitors :=
  h.of_units (fun i => by simpa [State.record?, Function.comp_def] using congrArg (Option.map Prod.fst) (k.marks i))
    k.chains k.age k.free

theorem TableKept.counted {s t : State} (k : TableKept s t) (h : SweepCounted s) : SweepCounted t := by
  have hcount : ∀ parity, t.visitors.records.toList.countP (unvisitedBy parity) =
    s.visitors.records.toList.countP (unvisitedBy parity) := by
    intro parity
    have hmark : ∀ u : State, u.visitors.records.toList.countP (unvisitedBy parity) = (List.finRange 384).countP
        (fun i => ((u.record? i).map (fun r => (r.unit, r.stamp))).any (fun m => m.2 != parity)) := fun u => by
      rw [toList_eq_map_finRange, List.countP_map]
      refine congrArg (fun p => List.countP p _) (funext fun i => ?_)
      simp only [Function.comp_apply, State.record?, unvisitedBy]
      cases u.visitors.records[i] <;> rfl
    rw [hmark, hmark]
    simp only [k.marks]
  exact ⟨by rw [k.sweep, hcount]; exact h.count, by rw [k.sweep]; exact h.idle, by rw [k.sweep]; exact h.flight⟩

theorem TableAtWork.kept {s t : State} (h : TableAtWork s) (k : TableKept s t) : TableAtWork t := ⟨k.table h.table, k.counted h.sweep⟩

/-! ## Release and allocation -/

/-- A record taken out of the unvisited count as it leaves the table (R17). -/
theorem SweepCounted.forget {s : State} (h : SweepCounted s) {i : Index} {r : Record} (hr : s.record? i = some r) {t : State}
    (hrecords : t.visitors.records = s.visitors.records.set i none) (hsweep : t.sweep = s.sweep.forget r.stamp) : SweepCounted t := by
  have hset := countP_toList_set s.visitors.records i none (unvisitedBy s.sweep.parity)
  have hi : s.visitors.records[i] = some r := hr
  have hcount := h.count
  simp only [hi, unvisitedBy, Option.any_some, Option.any_none, bne_iff_ne, ne_eq, Bool.false_eq_true, if_false] at hset
  rw [SweepUnit.forget_eq] at hsweep
  refine ⟨?_, fun hidle => ?_, fun hflight => ?_⟩
  · rw [hsweep, hrecords]
    dsimp only
    by_cases hstamp : r.stamp = s.sweep.parity
    · simp only [hstamp, not_true, if_false, if_true] at hset hcount ⊢
      omega
    · simp only [hstamp, not_false_eq_true, if_false, if_true] at hset hcount ⊢
      omega
  · rw [hsweep] at hidle ⊢
    obtain ⟨hzero, hdue, hsnapshot⟩ := h.idle hidle
    exact ⟨by simp [hzero], hdue, hsnapshot⟩
  · rw [hsweep] at hflight ⊢
    exact h.flight hflight

theorem TableSound.detach {s : State} (h : TableSound s.visitors) {i : Index} {r : Record} (hr : s.record? i = some r) :
    TableSoundBut (s.detach i).visitors i := by
  rw [State.detach_eq hr]
  exact h.vacate hr

theorem SweepCounted.detach {s : State} (h : SweepCounted s) {i : Index} {r : Record} (hr : s.record? i = some r) :
    SweepCounted (s.detach i) := by
  rw [State.detach_eq hr]
  exact h.forget hr rfl rfl

theorem TableSound.release {s : State} (h : TableSound s.visitors) (i : Index) : TableSound (s.release i).visitors := by
  cases hr : s.record? i with
  | none => simpa only [State.release, hr] using h
  | some r =>
    rw [State.release_eq hr]
    exact (h.detach hr).push

theorem SweepCounted.release {s : State} (h : SweepCounted s) (i : Index) : SweepCounted (s.release i) := by
  cases hr : s.record? i with
  | none => simpa only [State.release, hr] using h
  | some r =>
    have hd := h.detach hr
    rw [State.release_eq hr]
    exact ⟨hd.count, hd.idle, hd.flight⟩

/-- A record that becomes occupied with the stamp of the parity is not due a visit (R16, R70). -/
theorem SweepCounted.occupy {s : State} (h : SweepCounted s) {i : Index} (hvacant : s.visitors.records[i] = none) {r : Record}
    (hstamp : r.stamp = s.sweep.parity) {t : State} (hrecords : t.visitors.records = s.visitors.records.set i (some r))
    (hsweep : t.sweep = s.sweep) : SweepCounted t := by
  have hset := countP_toList_set s.visitors.records i (some r) (unvisitedBy s.sweep.parity)
  have hcount := h.count
  simp only [hvacant, unvisitedBy, Option.any_some, Option.any_none, hstamp, bne_self_eq_false, Bool.false_eq_true, if_false,
    Nat.add_zero] at hset hcount
  refine ⟨?_, by rw [hsweep]; exact h.idle, by rw [hsweep]; exact h.flight⟩
  rw [hsweep, hrecords]
  exact hcount.trans hset.symm

/-- The record that an eviction takes is LOST (R9, R14). -/
theorem State.record?_of_oldestLost {s : State} {i : Index} (h : s.visitors.oldestLost = some i) :
    ∃ r, s.record? i = some r ∧ r.state = .lost := by
  unfold VisitorTable.oldestLost at h
  have htest := List.find?_some h
  obtain ⟨r, hr, hstate⟩ := (Option.any_eq_true _ _).mp htest
  exact ⟨r, hr, beq_iff_eq.mp hstate⟩

/-- An allocation occupies a FREE record, the head of the free list or one that it evicts (R13, R14). -/
theorem State.allocate_of_vacant {s t : State} {unit seq : Nat} {cls : RadioClass} {state : RecordState} {i : Index}
    (given : s.allocate unit cls seq state = some (t, i)) :
    (∃ rest, s.visitors.free = i :: rest ∧ t =
      { s with visitors := VisitorTable.occupy { s.visitors with free := rest } i (.fresh unit cls seq state s.sweep.parity) })
    ∨ ∃ r, s.record? i = some r ∧ r.state = .lost ∧ t =
      { s.detach i with visitors := (s.detach i).visitors.occupy i (.fresh unit cls seq state s.sweep.parity) } := by
  rcases s.allocate_cases unit cls seq state with ⟨j, rest, hfree, -, he⟩ | ⟨-, j, hlost, he⟩ | ⟨-, -, he⟩
  · rw [he] at given
    cases given
    exact Or.inl ⟨rest, hfree, rfl⟩
  · rw [he] at given
    cases given
    obtain ⟨r, hr, hstate⟩ := State.record?_of_oldestLost hlost
    exact Or.inr ⟨r, hr, hstate, rfl⟩
  · rw [he] at given
    cases given

theorem TableSound.allocate {s : State} (h : TableSound s.visitors) {unit seq : Nat} {cls : RadioClass} {state : RecordState} {t : State}
    {i : Index} (absent : s.find unit = none) (given : s.allocate unit cls seq state = some (t, i)) : TableSound t.visitors := by
  have hunits := (h.find_eq_none_iff unit).mp absent
  rcases State.allocate_of_vacant given with ⟨rest, hfree, rfl⟩ | ⟨r, hr, -, rfl⟩
  · exact (h.pop hfree).occupy hunits
  · refine (h.detach hr).occupy fun k q hk => ?_
    have hkept : (s.detach i).visitors.records = s.visitors.records.set i none := by rw [State.detach_eq hr]; rfl
    rw [hkept, getElem_set_fin] at hk
    split at hk
    · cases hk
    · exact hunits k q hk

theorem SweepCounted.allocate {s : State} (h : SweepCounted s) (sound : TableSound s.visitors) {unit seq : Nat} {cls : RadioClass}
    {state : RecordState} {t : State} {i : Index} (given : s.allocate unit cls seq state = some (t, i)) : SweepCounted t := by
  rcases State.allocate_of_vacant given with ⟨rest, hfree, rfl⟩ | ⟨r, hr, -, rfl⟩
  · exact h.occupy (r := Record.fresh unit cls seq state s.sweep.parity) (sound.pop hfree).vacant rfl rfl rfl
  · have hparity : (s.detach i).sweep.parity = s.sweep.parity := by rw [State.detach_eq hr, SweepUnit.forget_eq]
    exact (h.detach hr).occupy (sound.detach hr).vacant hparity.symm rfl rfl

/-! ## The sweep -/

/-- Where every record has the stamp of the parity, a sweep starts with every record due (R71). -/
theorem State.startSweep_counted {s : State} (h : TableSound s.visitors)
    (hzero : s.visitors.records.toList.countP (unvisitedBy s.sweep.parity) = 0) (hdue : s.sweep.due = false) :
    SweepCounted s.startSweep := by
  have hall : s.visitors.age.length = s.visitors.records.toList.countP (unvisitedBy s.sweep.parity.flip) := by
    rw [h.length_age]
    refine List.countP_congr fun o ho => ?_
    have hvisited := List.countP_eq_zero.mp hzero o ho
    cases o with
    | none => simp [unvisitedBy]
    | some r =>
      have hstamp : r.stamp = s.sweep.parity := by simpa [unvisitedBy] using hvisited
      have hflip : s.sweep.parity ≠ s.sweep.parity.flip := by cases s.sweep.parity <;> decide
      simp [unvisitedBy, hstamp, hflip]
  unfold State.startSweep
  dsimp only
  split
  next hn => exact ⟨hall, fun _ => ⟨hn, hdue, rfl⟩, nofun⟩
  next => exact ⟨hall, nofun, fun _ => rfl⟩

theorem State.sweepExpiry_visitors (s : State) : s.sweepExpiry.visitors = s.visitors := by
  unfold State.sweepExpiry
  dsimp only
  split
  · rfl
  · exact State.startSweep_visitors _

theorem SweepCounted.sweepExpiry {s : State} (h : SweepCounted s) (sound : TableSound s.visitors) : SweepCounted s.sweepExpiry := by
  unfold State.sweepExpiry
  dsimp only
  split
  next hf => exact ⟨h.count, fun hn => absurd (hf.symm.trans hn) (by simp), fun _ => h.flight hf⟩
  next hf =>
    obtain ⟨hzero, hdue, -⟩ := h.idle (by simpa using hf)
    exact State.startSweep_counted sound (h.count.symm.trans hzero) hdue

/-- The end of a step ends a finished sweep and starts the one that waits behind it (R75). -/
theorem TableAtWork.checkSweep {s : State} (h : TableAtWork s) : TableAtWork s.checkSweep := by
  refine ⟨by rw [State.checkSweep_visitors]; exact h.table, ?_⟩
  unfold State.checkSweep
  split
  next hdone =>
    dsimp only
    split
    next => exact State.startSweep_counted h.table (h.sweep.count.symm.trans hdone.2) rfl
    next hdue => exact ⟨h.sweep.count, fun _ => ⟨hdone.2, by simpa using hdue, rfl⟩, nofun⟩
  next => exact h.sweep

theorem State.stampVisited_visitors {s : State} {i : Index} {r : Record} (hr : s.record? i = some r) :
    (s.stampVisited i).visitors =
      { s.visitors with records := s.visitors.records.set i (some { r with stamp := s.sweep.parity }) } := by
  unfold State.stampVisited
  rw [State.modifyRecord_eq_set hr]

theorem TableSound.stampVisited {s : State} (h : TableSound s.visitors) {i : Index} {r : Record} (hr : s.record? i = some r) :
    TableSound (s.stampVisited i).visitors := by
  have hi : s.visitors.records[i] = some r := hr
  rw [State.stampVisited_visitors hr]
  refine h.of_units (fun j => ?_) rfl (.refl _) rfl
  rw [getElem_set_fin]
  split
  next hj => rw [hj, hi]; rfl
  next => rfl

theorem SweepCounted.stampVisited {s : State} (h : SweepCounted s) {i : Index} {r : Record} (hr : s.record? i = some r)
    (hstamp : r.stamp ≠ s.sweep.parity) : SweepCounted (s.stampVisited i) := by
  have hset := countP_toList_set s.visitors.records i (some { r with stamp := s.sweep.parity }) (unvisitedBy s.sweep.parity)
  have hi : s.visitors.records[i] = some r := hr
  have hcount := h.count
  simp only [hi, unvisitedBy, Option.any_some, bne_self_eq_false, Bool.false_eq_true, if_false, bne_iff_ne, ne_eq, hstamp,
    not_false_eq_true, if_true, Nat.add_zero] at hset hcount
  have hsweep : (s.stampVisited i).sweep = { s.sweep with unvisited := s.sweep.unvisited - 1 } := rfl
  refine ⟨?_, fun hf => ?_, h.flight⟩
  · rw [State.stampVisited_visitors hr, hsweep]
    dsimp only
    omega
  · obtain ⟨hzero, hrest⟩ := h.idle hf
    exact ⟨by show s.sweep.unvisited - 1 = 0; omega, hrest⟩

/-- A table whose free list holds every record, with nothing on the age list and the chains (R11, R23). -/
theorem TableSound.of_vacant {t : VisitorTable} (freeNodup : t.free.Nodup) (every : ∀ i : Index, i ∈ t.free) (age : t.age = [])
    (records : ∀ i : Index, t.records[i] = none) (chains : ∀ b : Fin 127, t.chains[b] = []) : TableSound t where
  partition :=
    { freeNodup := freeNodup
      ageNodup := by rw [age]; exact List.nodup_nil
      free_iff := fun i => ⟨fun _ => records i, fun _ => every i⟩
      age_iff := fun i => ⟨fun hi => (by rw [age] at hi; cases hi), fun hi => absurd (records i) hi⟩ }
  chains :=
    { nodup := fun b => by rw [chains]; exact List.nodup_nil
      mem_iff := fun b i => by rw [chains, records]; exact ⟨nofun, nofun⟩ }
  units i j r q hr _ _ := by rw [records] at hr; cases hr

/-- SITE RESET appends the age list to the free list: together they hold every record (R24). -/
theorem TableSound.siteReset {t : VisitorTable} (h : TableSound t) : TableSound t.siteReset := by
  refine .of_vacant ?_ (fun i => ?_) rfl (fun i => ?_) (fun b => ?_)
  · refine List.nodup_append.mpr ⟨h.partition.freeNodup, h.partition.ageNodup, fun i hi j hj => ?_⟩
    rintro rfl
    exact (h.partition.age_iff i).mp hj ((h.partition.free_iff i).mp hi)
  · show i ∈ t.free ++ t.age
    rw [List.mem_append, h.partition.free_iff, h.partition.age_iff]
    exact em _
  · simp [VisitorTable.siteReset, VisitorTable.reset]
  · simp [VisitorTable.siteReset, VisitorTable.reset]

theorem State.siteReset_counted (s : State) : SweepCounted s.siteReset where
  count := by
    have hvacant : s.siteReset.visitors.records.toList = List.replicate 384 none := Vector.toList_replicate
    rw [hvacant, List.countP_replicate]
    rfl
  idle _ := ⟨rfl, rfl, rfl⟩
  flight := nofun

/-! ## The changes that a step is made of -/

theorem TableKept.refl (s : State) : TableKept s s := .of_eq rfl rfl

theorem TableKept.of_modify {s t : State} {i : Index} {f : Record → Record} (visitors : t.visitors = s.visitors.modify i f)
    (sweep : t.sweep = s.sweep) (hf : ∀ r, (f r).unit = r.unit ∧ (f r).stamp = r.stamp) : TableKept s t :=
  (TableKept.modifyRecord s i hf).trans (.of_eq visitors sweep)

theorem TableKept.failTransaction (s : State) (k : Fin 8) (cooldown : Bool) : TableKept s (s.failTransaction k cooldown) := by
  cases hx : s.handover.slots[k].transaction with
  | none => rw [State.failTransaction_free hx]; exact .refl s
  | some x =>
    rw [State.failTransaction_eq hx]
    exact .of_modify rfl rfl fun _ => ⟨rfl, rfl⟩

theorem TableKept.offered (s : State) (n : LinkNotice) : TableKept s (s.offered n) := by
  rw [State.offered_eq]
  exact .of_eq rfl rfl

theorem TableKept.offerCancel (s : State) (k : Fin 8) : TableKept s (s.offerCancel k).1 := by
  rw [State.offerCancel_frame]
  exact .of_eq rfl rfl

theorem TableKept.failWithCancel (s : State) (k : Fin 8) (cooldown : Bool) : TableKept s (s.failWithCancel k cooldown).1 :=
  (TableKept.offerCancel s k).trans (.failTransaction _ k cooldown)

theorem TableKept.moveAttempt (s : State) (k : Fin 8) : TableKept s (s.moveAttempt k).1 := by
  unfold State.moveAttempt
  split
  · exact .refl s
  · split
    · exact .refl s
    · split
      · exact .failWithCancel s k true
      · split
        · exact .failWithCancel s k true
        · split
          · exact .of_eq rfl rfl
          · split
            · exact .of_eq rfl rfl
            · exact .of_eq rfl rfl

/-- What every failure keeps, the failure of all that a test names keeps (R112). -/
theorem State.failAsked_induction {P : State → Prop} {cooldown : Bool}
    (one : ∀ (u : State) (k : Fin 8), P u → P (u.failTransaction k cooldown))
    (s : State) (test : Nat → Bool) (h : P s) : P (s.failAsked test cooldown) := by
  unfold State.failAsked
  generalize List.finRange 8 = slots
  induction slots generalizing s with
  | nil => exact h
  | cons k rest ih =>
    rw [List.foldl_cons]
    split
    · exact ih _ (one s k h)
    · exact ih s h

theorem TableKept.failAsked (s : State) (test : Nat → Bool) (cooldown : Bool) : TableKept s (s.failAsked test cooldown) :=
  State.failAsked_induction (P := TableKept s) (fun u k h => h.trans (.failTransaction u k cooldown)) s test (.refl s)

theorem TableKept.withdraw (s : State) (i : Index) : TableKept s (s.withdraw i) :=
  .of_modify (f := Record.unqueued) rfl rfl fun _ => ⟨rfl, rfl⟩

theorem TableKept.dropClaim (s : State) (i : Index) : TableKept s (s.dropClaim i) :=
  .of_modify rfl rfl fun _ => ⟨rfl, rfl⟩

theorem TableKept.oweClaim (s : State) (i : Index) (fresh : Bool) : TableKept s (s.oweClaim i fresh) := by
  refine (TableKept.modifyRecord s i (f := fun r => { r with claimPending := true }) fun _ => ⟨rfl, rfl⟩).trans ?_
  unfold State.oweClaim
  dsimp only
  split
  · exact .of_eq rfl rfl
  · exact .of_eq rfl rfl

theorem TableKept.withdrawTargets (s : State) (test : Nat → Bool) : TableKept s (s.withdrawTargets test) := by
  unfold State.withdrawTargets
  refine (TableKept.mapRecords s fun r => ?_).trans (.of_eq rfl rfl)
  split
  · exact ⟨rfl, rfl⟩
  · exact ⟨rfl, rfl⟩

theorem TableKept.countTalkgroups (s : State) (unit : Nat) (l : List Nat) : TableKept s (s.countTalkgroups unit l).1 := by
  rw [State.countTalkgroups_eq]
  exact .of_eq rfl rfl

theorem TableKept.reactivate (s : State) (i : Index) (r : Record) : TableKept s (s.reactivate i r) := by
  unfold State.reactivate
  split
  · exact (TableKept.countTalkgroups s r.unit r.talkgroups).trans (.modifyRecord _ i fun _ => ⟨rfl, rfl⟩)
  · exact .refl s

theorem TableKept.markHeard {s : State} (h : TableSound s.visitors) {i : Index} (hi : s.record? i ≠ none) :
    TableKept s (s.markHeard i) := by
  have hmark := TableKept.modifyRecord s i (f := fun r => { r with heard := true }) fun _ => ⟨rfl, rfl⟩
  refine hmark.trans (.toTail (hmark.table h) ?_)
  simpa using hi

theorem TableKept.changeClass (s : State) (i : Index) (cls : RadioClass) : TableKept s (s.changeClass i cls) := by
  unfold State.changeClass
  split
  · exact .refl s
  · have hclass := TableKept.modifyRecord s i (f := fun r => { r with cls := cls }) fun _ => ⟨rfl, rfl⟩
    dsimp only
    split
    · exact hclass.trans (.of_eq rfl rfl)
    · exact hclass

theorem TableKept.setTalkgroups (s : State) (i : Index) (unit : Nat) (old requested : List Nat) :
    TableKept s (s.setTalkgroups i unit old requested) := by
  have huncount : TableKept s (s.uncountTalkgroups (old.filter fun tg => !requested.contains tg)) := .of_eq rfl rfl
  exact (huncount.trans (.countTalkgroups _ unit (requested.filter fun tg => !old.contains tg))).trans
    (.of_modify rfl rfl fun _ => ⟨rfl, rfl⟩)

theorem TableKept.occupied {s t : State} (k : TableKept s t) {i : Index} (h : s.record? i ≠ none) : t.record? i ≠ none := by
  intro hn
  have hm := k.marks i
  rw [hn] at hm
  exact h (Option.map_eq_none_iff.mp hm.symm)

theorem TableKept.written {s : State} (h : TableSound s.visitors) {i : Index} (hi : s.record? i ≠ none) (c : Fin 4) (f : RegisterFields)
    (old : List Nat) (claim : Bool) : TableKept s (s.written c f i old claim) := by
  have hclass := (TableKept.changeClass s i ((RadioClass.ofCode f.cls).getD .general)).trans
    (.modifyRecord _ i (f := fun r => { r with serving := some c }) fun _ => ⟨rfl, rfl⟩)
  have huplink := hclass.trans (.modifyRecord _ i (f := fun r =>
    { r with home := some ((s.scored f.attenuation f.grade).into r.home).1 }) fun _ => ⟨rfl, rfl⟩)
  have hheard := (huplink.trans (.markHeard (huplink.table h) (huplink.occupied hi))).trans
    (.setTalkgroups _ i f.unit old (requestedList f.talkgroups))
  unfold State.written
  dsimp only
  split
  · exact hheard.trans (.oweClaim _ i f.fresh)
  · exact hheard

theorem TableKept.decideHandover (s : State) (p : Snapshot) (i : Index) (r : Record) : TableKept s (s.decideHandover p i r) := by
  have hreviewed : TableKept s (s.reviewed p i r) := by
    unfold State.reviewed
    split
    · exact (TableKept.withdraw s i).trans (.modifyRecord _ i fun _ => ⟨rfl, rfl⟩)
    · exact .modifyRecord s i fun _ => ⟨rfl, rfl⟩
  cases hw : s.winner p r with
  | none => rw [State.decideHandover_of_winner_none hw]; exact hreviewed
  | some site =>
    rw [State.decideHandover_of_winner_some hw]
    split
    · exact hreviewed.trans (.of_modify rfl rfl fun _ => ⟨rfl, rfl⟩)
    · exact hreviewed

theorem TableKept.poll (s : State) (p : Snapshot) (r : Record) : TableKept s (s.poll p r) := by
  unfold State.poll
  split
  · exact .refl s
  · split
    · exact .of_eq rfl rfl
    · exact .refl s

theorem TableKept.lose (s : State) (i : Index) (r : Record) : TableKept s (s.lose i r) := by
  rw [State.lose_eq]
  exact .of_modify rfl rfl fun _ => ⟨rfl, rfl⟩

/-- Every neighbour DOWN (R141). -/
def State.allDown (s : State) : State :=
  { s with neighbours := s.neighbours.map (Option.map (fun (n : Neighbour) => { n with link := .down })) }

/-- The neighbours DOWN, every ASKED transaction failed and every queued record withdrawn, as a closing of the link port begins (R141). -/
def State.islanded (s : State) : State :=
  (s.allDown.failAsked (fun _ => true) true).withdrawTargets (fun _ => true)

/-- The link port and the interest map as a closing of the link port leaves them (R128, R141). -/
def State.linkShut (s : State) : State :=
  let t := s.modifyLink (fun p => { p with isOpen := false, queue := [], refreshOwed := false })
  { t with interest := t.interest.closed }

theorem State.closeLink_eq (s : State) (cause : Kind) : s.closeLink cause = s.islanded.linkShut.raiseAlarm .linkClosed cause.code := by
  simp only [State.closeLink, State.islanded, State.linkShut, State.allDown]

theorem TableKept.raiseAlarm (s : State) (key : AlarmKey) (detail : Nat) : TableKept s (s.raiseAlarm key detail) := .of_eq rfl rfl

theorem TableKept.setNeighbourSlot (s : State) (k : Fin 12) (n : Option Neighbour) : TableKept s (s.setNeighbourSlot k n) :=
  .of_eq rfl rfl

theorem TableKept.islanded (s : State) : TableKept s s.islanded := by
  have hdown : TableKept s s.allDown := .of_eq rfl rfl
  exact (hdown.trans (.failAsked _ _ _)).trans (.withdrawTargets _ _)

theorem TableKept.linkShut (s : State) : TableKept s s.linkShut := .of_eq rfl rfl

theorem TableKept.closeLink (s : State) (cause : Kind) : TableKept s (s.closeLink cause) := by
  rw [State.closeLink_eq]
  exact ((TableKept.islanded s).trans (.linkShut _)).trans (.raiseAlarm _ _ _)

theorem TableKept.removeSite (s : State) (site : Nat) : TableKept s (s.removeSite site) :=
  ((TableKept.mapRecords s (f := fun r => { r with neighbours := r.neighbours.filter (fun e => e.site != site) })
    fun _ => ⟨rfl, rfl⟩).trans (.withdrawTargets _ _)).trans (.failAsked _ _ false)

theorem TableKept.neighbourDown (s : State) (site : Nat) : TableKept s (s.neighbourDown site) := by
  have h := (TableKept.failAsked s (fun t => t == site) true).trans (.withdrawTargets _ fun t => t == site)
  unfold State.neighbourDown
  dsimp only
  exact h.trans (.raiseAlarm _ _ _)

theorem TableKept.setOutbound (s : State) (l : List Confirmation) (p : Port) : TableKept s (s.setOutbound l p) :=
  .of_eq (by simp) (by simp)

/-- A change of the lists of the table, of the unit ID or the stamp of a record, or of the sweep unit. -/
inductive TableChange (s : State) : State → Prop where
  | same : TableChange s s
  | release (i : Index) : TableChange s (s.release i)
  | allocate {unit seq : Nat} {cls : RadioClass} {state : RecordState} {t : State} {i : Index} (absent : s.find unit = none)
      (given : s.allocate unit cls seq state = some (t, i)) : TableChange s t
  | sweepExpiry : TableChange s s.sweepExpiry
  | stamp {i : Index} {r : Record} (held : s.record? i = some r) (unvisited : r.stamp ≠ s.sweep.parity) :
      TableChange s (s.stampVisited i)
  | siteReset : TableChange s s.siteReset
  | reserve (n : Nat) : TableChange s { s with visitors := { s.visitors with reserve := n } }

theorem TableChange.table {s t : State} (h : TableChange s t) (hs : TableSound s.visitors) : TableSound t.visitors := by
  cases h with
  | same => exact hs
  | release i => exact hs.release i
  | allocate absent given => exact hs.allocate absent given
  | sweepExpiry => rw [State.sweepExpiry_visitors]; exact hs
  | stamp held _ => exact hs.stampVisited held
  | siteReset => exact hs.siteReset
  | reserve n => exact hs.of_units (fun _ => rfl) rfl (.refl _) rfl

theorem TableChange.counted {s t : State} (h : TableChange s t) (table : TableSound s.visitors) (hs : SweepCounted s) : SweepCounted t := by
  cases h with
  | same => exact hs
  | release i => exact hs.release i
  | allocate _ given => exact hs.allocate table given
  | sweepExpiry => exact hs.sweepExpiry table
  | stamp held unvisited => exact hs.stampVisited held unvisited
  | siteReset => exact s.siteReset_counted
  | reserve n => exact ⟨hs.count, hs.idle, hs.flight⟩

/-- Every change is a change of the table, and then one that leaves the table and the unvisited count as they are. -/
theorem Deed.table_cases {s t : State} (h : Deed s t) (hs : TableSound s.visitors) : ∃ u, TableChange s u ∧ TableKept u t := by
  have hread : ∀ r : Record, ∀ seq, (r.readmitted seq).unit = r.unit ∧ (r.readmitted seq).stamp = r.stamp := fun r seq => by
    unfold Record.readmitted
    split <;> exact ⟨rfl, rfl⟩
  cases h with
  | fail k cooldown => exact ⟨s, .same, .failTransaction s k cooldown⟩
  | attempt k => exact ⟨s, .same, .moveAttempt s k⟩
  | offer n => exact ⟨s, .same, .offered s n⟩
  | outbound l p => exact ⟨s, .same, .setOutbound s l p⟩
  | closeLink cause => exact ⟨s, .same, .closeLink s cause⟩
  | hear i r held => exact ⟨s, .same, (TableKept.markHeard hs (by simp [held])).trans (.reactivate _ i r)⟩
  | call i inCall => exact ⟨s, .same, .modifyRecord s i fun _ => ⟨rfl, rfl⟩⟩
  | uplink i a g => exact ⟨s, .same, .modifyRecord s i fun _ => ⟨rfl, rfl⟩⟩
  | downlink i r a g site t held known routed => exact ⟨s, .same, .modifyRecord s i fun _ => ⟨rfl, rfl⟩⟩
  | enter c f t i absent range given =>
    have ht : TableChange s t := .allocate absent given
    exact ⟨t, ht, .written (ht.table hs) (by simp [State.record?_allocate given]) c f [] true⟩
  | readmit c f i r seq claim held unit range stored =>
    have hkept := TableKept.modifyRecord s i fun r => hread r seq
    exact ⟨s, .same, hkept.trans (.written (hkept.table hs) (by simp [held]) c f _ claim)⟩
  | release i => exact ⟨_, .release i, .refl _⟩
  | askNew f t i absent range given => exact ⟨t, .allocate absent given, .modifyRecord _ i fun _ => ⟨rfl, rfl⟩⟩
  | askExpected f i r held state range => exact ⟨s, .same, .modifyRecord s i fun _ => ⟨rfl, rfl⟩⟩
  | askLost f i r held state range =>
    have hasked := (TableKept.modifyRecord s i (f := fun r => r.asked f) fun _ => ⟨rfl, rfl⟩).trans (.dropClaim _ i)
    exact ⟨s, .same, hasked.trans (.toTail (hasked.table hs) (hasked.occupied (by simp [held])))⟩
  | sweepExpiry => exact ⟨_, .sweepExpiry, .refl _⟩
  | stamp i r held unvisited => exact ⟨_, .stamp held unvisited, .refl _⟩
  | shift i => exact ⟨s, .same, .modifyRecord s i fun _ => ⟨rfl, rfl⟩⟩
  | lose i r held state => exact ⟨s, .same, .lose s i r⟩
  | poll p r => exact ⟨s, .same, .poll s p r⟩
  | ageEntries i life => exact ⟨s, .same, .modifyRecord s i fun _ => ⟨rfl, rfl⟩⟩
  | decide p i r held state => exact ⟨s, .same, .decideHandover s p i r⟩
  | older i => exact ⟨s, .same, .modifyRecord s i fun _ => ⟨rfl, rfl⟩⟩
  | rest i => exact ⟨s, .same, .modifyRecord s i fun _ => ⟨rfl, rfl⟩⟩
  | replaceSlot k site gone bias range removed => exact ⟨s, .same, (TableKept.removeSite s gone).trans (.setNeighbourSlot _ k _)⟩
  | neighbourDown site => exact ⟨s, .same, .neighbourDown s site⟩
  | limits f => exact ⟨_, .reserve (limitStored 0 128 s.visitors.reserve f.reserve), .of_eq rfl rfl⟩
  | siteReset => exact ⟨_, .siteReset, .refl _⟩
  | _ => exact ⟨s, .same, .of_eq rfl rfl⟩

theorem TableSound.deed {s t : State} (h : Deed s t) (hs : TableSound s.visitors) : TableSound t.visitors := by
  obtain ⟨u, hchange, hkept⟩ := h.table_cases hs
  exact hkept.table (hchange.table hs)

theorem TableAtWork.deed {s t : State} (h : Deed s t) (hs : TableAtWork s) : TableAtWork t := by
  obtain ⟨u, hchange, hkept⟩ := h.table_cases hs.table
  exact ⟨hkept.table (hchange.table hs.table), hkept.counted (hchange.counted hs.table hs.sweep)⟩

/-! ## The end of a step, and the step -/

theorem TableKept.of_endOfStep {s t : State} (h : EndOfStepFrame s t) (sweep : t.sweep = s.sweep) : TableKept s t where
  marks i := by
    cases hr : s.record? i with
    | none => rw [h.vacant i hr]
    | some r =>
      obtain ⟨q, hq, hkept⟩ := h.record i r hr
      rw [hq, hkept]
      rfl
  chains := h.chains
  age := by rw [h.age]
  free := h.free
  sweep := sweep

theorem TableAtWork.settle {s : State} (h : TableAtWork s) : TableSound s.settle.visitors ∧ SweepExact s.settle := by
  have hgranted := h.checkSweep.kept (.of_endOfStep s.checkSweep.kept_runArbiter s.checkSweep.runArbiter_sweep)
  have hsettled : TableAtWork s.settle := hgranted.kept (.of_endOfStep s.checkSweep.runArbiter.kept_refreshLines rfl)
  exact ⟨hsettled.table, (sweepExact_iff _).mpr ⟨hsettled.sweep, s.settled_settle.sweep⟩⟩

/-- The unvisited count does not read the sweep timer (R70). -/
theorem SweepExact.of_eq {s t : State} (h : SweepExact s) (visitors : t.visitors = s.visitors)
    (sweep : t.sweep = { s.sweep with timer := t.sweep.timer }) : SweepExact t where
  count := by rw [sweep, visitors]; exact h.count
  idle := by rw [sweep]; exact h.idle
  flight := by rw [sweep]; exact h.flight

theorem VisitorTable.reset_records (i : Index) : VisitorTable.reset.records[i] = none := by simp [VisitorTable.reset]

theorem VisitorTable.reset_chains (b : Fin 127) : VisitorTable.reset.chains[b] = [] := by simp [VisitorTable.reset]

theorem VisitorTable.reset_free : VisitorTable.reset.free = List.finRange 384 := by simp only [VisitorTable.reset]

theorem tableSound_reset : TableSound VisitorTable.reset := by
  refine .of_vacant ?_ (fun i => ?_) rfl VisitorTable.reset_records VisitorTable.reset_chains
  · rw [VisitorTable.reset_free]
    exact List.nodup_finRange 384
  · rw [VisitorTable.reset_free]
    exact List.mem_finRange i

theorem sweepExact_reset : SweepExact State.reset where
  count := by
    have hvacant : State.reset.visitors.records.toList = List.replicate 384 none := Vector.toList_replicate
    rw [hvacant, List.countP_replicate]
    rfl
  idle _ := ⟨rfl, rfl, rfl⟩
  flight := nofun

theorem table_invariant : Invariant (fun s => TableSound s.visitors ∧ SweepExact s) TableAtWork where
  start s h := ⟨h.1, ((sweepExact_iff s).mp h.2).1⟩
  pending s l h := ⟨h.1, h.2.of_eq rfl rfl⟩
  pinLow s h := ⟨h.1, h.2.of_eq rfl rfl⟩
  powerOn l := ⟨tableSound_reset, sweepExact_reset.of_eq rfl rfl⟩
  tick s pin h := by
    rw [State.tick_eq pin]
    exact ⟨h.1, h.2.of_eq rfl rfl⟩
  deed _ _ := TableAtWork.deed
  settle _ h := h.settle
  confirm s p c h := ⟨by simpa using h.1, h.2.of_eq (by simp) (by simp)⟩

/-- Settles O57: every operation keeps the free list, the age list and the chains in step with the records, and the unvisited count. -/
theorem stepKeepsTableAndSweep : Obligations.StepKeepsTableAndSweep :=
  fun _ _ table sweep h => table_invariant.step h ⟨table, sweep⟩

end Sys2Proof.Machine
end

section
/-! PROOF. What every step keeps of the slots, the class queues and the pending-claims list (01 R17, 03 R65, 05 R90, R91): one record
changed at a time, then the changes that a step is made of. -/

namespace Sys2Proof.Machine

/-! ## Lists that name records -/

/-- Slots, class queues and pending claims agree with the records (R65, R90, R91). -/
structure ListsExact (s : State) : Prop where
  slots : SlotsExact s
  queues : ClassQueuesExact s
  claims : ClaimsExact s

/-- The queue a queued record is in, and whether it is ACTIVE (R90). -/
def Record.queuedAs (r : Record) : Option (RadioClass × Bool) := if r.queued then some (r.cls, r.state == .active) else none

/-- What the lists read of a record. -/
def Record.listMark (r : Record) : Option (Fin 8) × Bool × Option (RadioClass × Bool) × Bool × Bool :=
  (r.slot, r.state == .transit, r.queuedAs, r.target.isSome, r.claimPending)

/-- What leaves the lists and what they read of the records as they are. -/
structure ListsKept (s t : State) : Prop where
  marks : ∀ i : Index, (t.record? i).map Record.listMark = (s.record? i).map Record.listMark
  names : ∀ k : Fin 8, t.handover.slots[k].transaction.map Transaction.record = s.handover.slots[k].transaction.map Transaction.record
  queues : t.handover.queues = s.handover.queues
  claims : t.claims.map PendingClaim.index = s.claims.map PendingClaim.index

theorem ListsKept.of_eq {s t : State} (records : t.visitors.records = s.visitors.records) (handover : t.handover = s.handover)
    (claims : t.claims = s.claims) : ListsKept s t where
  marks i := by rw [State.record?_congr records]
  names k := by rw [handover]
  queues := by rw [handover]
  claims := by rw [claims]

theorem ListsKept.refl (s : State) : ListsKept s s := .of_eq rfl rfl rfl

theorem ListsKept.trans {a b c : State} (h : ListsKept a b) (g : ListsKept b c) : ListsKept a c where
  marks i := (g.marks i).trans (h.marks i)
  names k := (g.names k).trans (h.names k)
  queues := g.queues.trans h.queues
  claims := g.claims.trans h.claims

/-- What a change of one record keeps of that record, it keeps of every record. -/
theorem State.map_modifyRecord {α : Type} {s : State} {i : Index} {f : Record → Record} {m : Record → α}
    (hf : ∀ r, s.record? i = some r → m (f r) = m r) (j : Index) : ((s.modifyRecord i f).record? j).map m = (s.record? j).map m := by
  rw [State.record?_modifyRecord]
  split
  next h =>
    subst h
    cases hr : s.record? j with
    | none => rfl
    | some r => exact congrArg some (hf r hr)
  next => rfl

theorem ListsKept.modifyRecord (s : State) (i : Index) {f : Record → Record}
    (hf : ∀ r, s.record? i = some r → (f r).listMark = r.listMark) :
    ListsKept s (s.modifyRecord i f) where
  marks := State.map_modifyRecord hf
  names _ := rfl
  queues := rfl
  claims := rfl

theorem ListsKept.mapRecords (s : State) {f : Record → Record} (hf : ∀ r, (f r).listMark = r.listMark) : ListsKept s (s.mapRecords f) where
  marks j := by rw [State.record?_mapRecords]; cases s.record? j <;> simp [hf]
  names _ := rfl
  queues := rfl
  claims := rfl

theorem Record.queuedAs_any (r : Record) (c : Fin 4) :
    (r.state == .active && r.queued && r.cls.index == c) = r.queuedAs.any (fun m => m.2 && m.1.index == c) := by
  unfold Record.queuedAs
  cases r.queued <;> simp

/-- What a test finds of a part of the records is what that part says. -/
theorem any_of_map_eq {α : Type} {m : Record → α} {o q : Option Record} (h : o.map m = q.map m) (p : α → Bool) :
    o.any (fun r => p (m r)) = q.any (fun r => p (m r)) := by
  have := congrArg (Option.any p) h
  rwa [Option.any_map, Option.any_map] at this

theorem exists_of_map_eq {α : Type} {m : Record → α} {o q : Option Record} (h : o.map m = q.map m) {r : Record} (hr : o = some r) :
    ∃ x, q = some x ∧ m x = m r := by
  rw [hr] at h
  exact Option.map_eq_some_iff.mp h.symm

theorem SlotsExact.same {s t : State} (h : SlotsExact s)
    (marks : ∀ i : Index, (t.record? i).map (fun r => (r.slot, r.state == .transit)) =
      (s.record? i).map (fun r => (r.slot, r.state == .transit)))
    (names : ∀ k : Fin 8, t.handover.slots[k].transaction.map Transaction.record = s.handover.slots[k].transaction.map Transaction.record) :
    SlotsExact t where
  named k i := by
    rw [names k, h.named k i]
    exact iff_of_eq (congrArg (· = true) (any_of_map_eq (marks i) (fun m => m.1 == some k)).symm)
  transit i r hr := by
    obtain ⟨q, hq, hm⟩ := exists_of_map_eq (marks i) hr
    obtain ⟨hslot, htransit⟩ := Prod.mk.inj hm
    rw [← hslot, h.transit i q hq, ← beq_iff_eq, htransit, beq_iff_eq]

theorem ClassQueuesExact.same {s t : State} (h : ClassQueuesExact s)
    (marks : ∀ i : Index, (t.record? i).map (fun r => (r.queuedAs, r.target.isSome)) =
      (s.record? i).map (fun r => (r.queuedAs, r.target.isSome)))
    (queues : t.handover.queues = s.handover.queues) : ClassQueuesExact t where
  nodup c := by rw [queues]; exact h.nodup c
  mem_iff c i := by
    rw [queues, h.mem_iff c i]
    simp only [Record.queuedAs_any]
    exact iff_of_eq (congrArg (· = true) (any_of_map_eq (marks i) (fun m => m.1.any (fun m => m.2 && m.1.index == c))).symm)
  queued i r hr := by
    obtain ⟨q, hq, hm⟩ := exists_of_map_eq (marks i) hr
    obtain ⟨hqueued, htarget⟩ := Prod.mk.inj hm
    obtain ⟨hactive, hsome⟩ := h.queued i q hq
    unfold Record.queuedAs at hqueued
    rw [← htarget, hsome]
    cases hrq : r.queued <;> cases hqq : q.queued <;> simp_all

theorem ClaimsExact.same {s t : State} (h : ClaimsExact s)
    (marks : ∀ i : Index, (t.record? i).map Record.claimPending = (s.record? i).map Record.claimPending)
    (claims : t.claims.map PendingClaim.index = s.claims.map PendingClaim.index) : ClaimsExact t where
  nodup := by rw [claims]; exact h.nodup
  mem_iff i := by
    rw [claims, h.mem_iff i]
    exact iff_of_eq (congrArg (· = true) (any_of_map_eq (marks i) id).symm)

theorem ListsKept.exact {s t : State} (k : ListsKept s t) (h : ListsExact s) : ListsExact t := by
  have hpart : ∀ {α : Type} (p : _ → α) (i : Index), (t.record? i).map (fun r => p r.listMark) =
    (s.record? i).map (fun r => p r.listMark) :=
    fun p i => by
      have hi := congrArg (Option.map p) (k.marks i)
      rwa [Option.map_map, Option.map_map] at hi
  exact ⟨h.slots.same (hpart fun m => (m.1, m.2.1)) k.names, h.queues.same (hpart fun m => (m.2.2.1, m.2.2.2.1)) k.queues,
    h.claims.same (hpart fun m => m.2.2.2.2) k.claims⟩

/-! ## One record taken out of the lists, or put on them -/

/-- A record that holds no slot any more, and the slot that named it FREE (R17, R91, R108). -/
theorem SlotsExact.unname {s t : State} (h : SlotsExact s) {i : Index} (others : ∀ j, j ≠ i → t.record? j = s.record? j)
    (own : ∀ q, t.record? i = some q → q.slot = none ∧ q.state ≠ .transit)
    (names : ∀ k : Fin 8, t.handover.slots[k].transaction.map Transaction.record =
      (s.handover.slots[k].transaction.map Transaction.record).filter (fun j => j != i)) : SlotsExact t where
  named k j := by
    rw [names k, Option.filter_eq_some_iff, h.named k j]
    by_cases hj : j = i
    · subst hj
      cases ht : t.record? j with
      | none => simp
      | some q => simp [(own q ht).1]
    · simp [hj, others j hj]
  transit j r hr := by
    by_cases hj : j = i
    · subst hj
      obtain ⟨hslot, hstate⟩ := own r hr
      simp [hslot, hstate]
    · exact h.transit j r (others j hj ▸ hr)

/-- One record changed, the other members of the class queues as they were (R90). -/
theorem ClassQueuesExact.change {s t : State} (h : ClassQueuesExact s) {i : Index} (others : ∀ j, j ≠ i → t.record? j = s.record? j)
    (own : ∀ q, t.record? i = some q → (q.queued = true → q.state = .active) ∧ q.target.isSome = q.queued)
    (nodup : ∀ c : Fin 4, t.handover.queues[c].Nodup)
    (members : ∀ (c : Fin 4) (j : Index), j ≠ i → (j ∈ t.handover.queues[c] ↔ j ∈ s.handover.queues[c]))
    (member : ∀ c : Fin 4, i ∈ t.handover.queues[c] ↔ ∃ q, t.record? i = some q ∧ q.queued = true ∧ q.cls.index = c) :
    ClassQueuesExact t where
  nodup := nodup
  mem_iff c j := by
    by_cases hj : j = i
    · subst hj
      rw [member c]
      cases ht : t.record? j with
      | none => simp
      | some q =>
        obtain ⟨hactive, -⟩ := own q ht
        simp only [Option.some.injEq, exists_eq_left', Option.any_some, Bool.and_eq_true, beq_iff_eq]
        exact ⟨fun hq => ⟨⟨hactive hq.1, hq.1⟩, hq.2⟩, fun hq => ⟨hq.1.2, hq.2⟩⟩
    · rw [members c j hj, h.mem_iff c j, others j hj]
  queued j r hr := by
    by_cases hj : j = i
    · subst hj; exact own r hr
    · exact h.queued j r (others j hj ▸ hr)

/-- A record that no class queue holds any more (R17, R90). -/
theorem ClassQueuesExact.unqueue {s t : State} (h : ClassQueuesExact s) {i : Index} (others : ∀ j, j ≠ i → t.record? j = s.record? j)
    (own : ∀ q, t.record? i = some q → q.queued = false ∧ q.target = none)
    (queues : t.handover.queues = (s.handover.dequeue i).queues) : ClassQueuesExact t := by
  have hqueue : ∀ c : Fin 4, t.handover.queues[c] = s.handover.queues[c].filter (fun j => j != i) := fun c => by
    rw [queues]
    exact HandoverUnit.queues_dequeue s.handover i c
  refine h.change others (fun q hq => ?_) (fun c => ?_) (fun c j hj => ?_) (fun c => ?_)
  · obtain ⟨hqueued, htarget⟩ := own q hq
    simp [hqueued, htarget]
  · rw [hqueue c]
    exact (h.nodup c).filter _
  · simp [hqueue c, hj]
  · constructor
    · intro hi
      simp [hqueue c] at hi
    · rintro ⟨q, hq, hqueued, -⟩
      rw [(own q hq).1] at hqueued
      cases hqueued

/-- One record changed, the other members of the pending-claims list as they were (R65). -/
theorem ClaimsExact.change {s t : State} (h : ClaimsExact s) {i : Index} (others : ∀ j, j ≠ i → t.record? j = s.record? j)
    (nodup : (t.claims.map PendingClaim.index).Nodup)
    (members : ∀ j, j ≠ i → (j ∈ t.claims.map PendingClaim.index ↔ j ∈ s.claims.map PendingClaim.index))
    (member : i ∈ t.claims.map PendingClaim.index ↔ ∃ q, t.record? i = some q ∧ q.claimPending = true) : ClaimsExact t where
  nodup := nodup
  mem_iff j := by
    by_cases hj : j = i
    · subst hj
      rw [member, Option.any_eq_true]
    · rw [members j hj, h.mem_iff j, others j hj]

/-- A record that the pending-claims list does not hold any more (R17, R65). -/
theorem ClaimsExact.drop {s t : State} (h : ClaimsExact s) {i : Index} (others : ∀ j, j ≠ i → t.record? j = s.record? j)
    (own : ∀ q, t.record? i = some q → q.claimPending = false) (claims : t.claims = s.claims.filter (fun e => e.index != i)) :
    ClaimsExact t := by
  have hmap : t.claims.map PendingClaim.index = (s.claims.map PendingClaim.index).filter (fun j => j != i) := by
    rw [claims, List.filter_map]
    rfl
  refine h.change others ?_ (fun j hj => ?_) ?_
  · rw [hmap]
    exact h.nodup.filter _
  · simp [hmap, hj]
  · constructor
    · intro hi
      simp [hmap] at hi
    · rintro ⟨q, hq, hclaim⟩
      rw [own q hq] at hclaim
      cases hclaim

/-- A record put at the tail of its class's queue, wherever it was before (R49, R86, R90). -/
theorem ClassQueuesExact.requeue {s t : State} (h : ClassQueuesExact s) {i : Index} (others : ∀ j, j ≠ i → t.record? j = s.record? j)
    {q : Record} (held : t.record? i = some q) (queued : q.queued = true) (state : q.state = .active) (target : q.target.isSome = true)
    (queues : t.handover.queues = ((s.handover.dequeue i).enqueue q.cls i).queues) : ClassQueuesExact t := by
  have hqueue : ∀ c : Fin 4, t.handover.queues[c] =
      s.handover.queues[c].filter (fun j => j != i) ++ if c = q.cls.index then [i] else [] := fun c => by
    rw [queues, HandoverUnit.queues_enqueue, HandoverUnit.queues_dequeue]
  refine h.change others (fun x hx => ?_) (fun c => ?_) (fun c j hj => ?_) (fun c => ?_)
  · rw [held] at hx
    cases hx
    exact ⟨fun _ => state, by rw [target, queued]⟩
  · rw [hqueue c]
    split
    · refine List.nodup_append.mpr ⟨(h.nodup c).filter _, List.nodup_singleton i, fun j hj k hk => ?_⟩
      rw [List.mem_singleton.mp hk]
      simpa using (List.mem_filter.mp hj).2
    · rw [List.append_nil]
      exact (h.nodup c).filter _
  · rw [hqueue c]
    split <;> simp [hj]
  · rw [hqueue c, held]
    simp only [Option.some.injEq, exists_eq_left', queued, true_and]
    split
    next hc => simp [hc]
    next hc => simpa using fun e => hc e.symm

theorem Option.filter_of_forall {α : Type} {o : Option α} {p : α → Bool} (h : ∀ a, o = some a → p a = true) : o.filter p = o := by
  cases o with
  | none => rfl
  | some a => simp [h a rfl]

/-- The slots that name a record are the one it holds (R91). -/
theorem SlotsExact.names_filter {s : State} (h : SlotsExact s) {i : Index} {r : Record} (hr : s.record? i = some r) (k : Fin 8) :
    (s.handover.slots[k].transaction.map Transaction.record).filter (fun j => j != i) =
      if r.slot = some k then none else s.handover.slots[k].transaction.map Transaction.record := by
  have hnamed := h.named k i
  rw [hr, Option.any_some, beq_iff_eq] at hnamed
  split
  next hk => rw [hnamed.mpr hk]; simp
  next hk =>
    refine Option.filter_of_forall fun j hj => ?_
    simpa using fun e : j = i => hk (hnamed.mp (e ▸ hj))

/-- No slot names a record that holds none (R91). -/
theorem SlotsExact.names_slotless {s : State} (h : SlotsExact s) {i : Index} (slotless : ∀ r, s.record? i = some r → r.slot = none)
    (k : Fin 8) : (s.handover.slots[k].transaction.map Transaction.record).filter (fun j => j != i) =
      s.handover.slots[k].transaction.map Transaction.record := by
  refine Option.filter_of_forall fun j hj => ?_
  have hnamed := (h.named k j).mp hj
  obtain ⟨r, hr, hslot⟩ := (Option.any_eq_true _ _).mp hnamed
  have hne : j ≠ i := by
    rintro rfl
    rw [slotless r hr] at hslot
    cases hslot
  simpa using hne

/-- A record out of TRANSIT holds no slot (R91). -/
theorem SlotsExact.slot_none {s : State} (h : SlotsExact s) {i : Index} {r : Record} (hr : s.record? i = some r)
    (state : r.state ≠ .transit) : r.slot = none := by
  have hn := mt (h.transit i r hr).mp state
  simpa using hn

/-- A record out of ACTIVE is not queued, and has no target (R3, R90). -/
theorem ClassQueuesExact.unqueued {s : State} (h : ClassQueuesExact s) {i : Index} {r : Record} (hr : s.record? i = some r)
    (state : r.state ≠ .active) : r.queued = false ∧ r.target = none := by
  obtain ⟨hactive, htarget⟩ := h.queued i r hr
  have hq : r.queued = false := by simpa using mt hactive state
  exact ⟨hq, by simpa [hq] using htarget⟩

/-! ## The operations that name records -/

theorem freeSlot_transaction (h : HandoverUnit) (k j : Fin 8) :
    (h.freeSlot k).slots[j].transaction = if j = k then none else h.slots[j].transaction := by
  simp only [HandoverUnit.freeSlot, getElem_set_fin]
  split <;> rfl

/-- A record that leaves every list (R17), and what stands at its index then. -/
theorem ListsExact.renew {s t : State} (h : ListsExact s) {i : Index} {r : Record} (hr : s.record? i = some r)
    (others : ∀ j, j ≠ i → t.record? j = s.record? j)
    (own : ∀ q, t.record? i = some q → q.listMark = (none, false, none, false, false))
    (handover : t.handover = r.slot.elim (s.handover.dequeue i) (s.handover.dequeue i).freeSlot)
    (claims : t.claims = s.claims.filter (fun e => e.index != i)) : ListsExact t := by
  have hown : ∀ q, t.record? i = some q → q.slot = none ∧ q.state ≠ .transit ∧ q.queued = false ∧ q.target = none ∧
      q.claimPending = false := fun q hq => by
    have hm := own q hq
    simp only [Record.listMark, Record.queuedAs, Prod.mk.injEq] at hm
    obtain ⟨hslot, hstate, hqueued, htarget, hclaim⟩ := hm
    refine ⟨hslot, by simpa using hstate, ?_, by simpa using htarget, hclaim⟩
    cases hqq : q.queued with
    | false => rfl
    | true => simp [hqq] at hqueued
  refine ⟨h.slots.unname others (fun q hq => ?_) (fun k => ?_), h.queues.unqueue others (fun q hq => ?_) ?_,
    h.claims.drop others (fun q hq => ?_) claims⟩
  · obtain ⟨hslot, hstate, -⟩ := hown q hq
    exact ⟨hslot, hstate⟩
  · rw [h.slots.names_filter hr, handover]
    cases hslot : r.slot with
    | none => rfl
    | some l =>
      rw [Option.elim_some, freeSlot_transaction]
      simp only [Option.some.injEq, eq_comm (a := k)]
      split <;> rfl
  · obtain ⟨-, -, hqueued, htarget, -⟩ := hown q hq
    exact ⟨hqueued, htarget⟩
  · rw [handover]
    cases r.slot <;> rfl
  · obtain ⟨-, -, -, -, hclaim⟩ := hown q hq
    exact hclaim

theorem State.record?_detach {s : State} {i : Index} {r : Record} (hr : s.record? i = some r) (j : Index) :
    (s.detach i).record? j = if j = i then none else s.record? j := by
  rw [State.detach_eq hr]
  simp only [State.record?, VisitorTable.vacate, getElem_set_fin]

theorem ListsExact.detach {s : State} (h : ListsExact s) {i : Index} {r : Record} (hr : s.record? i = some r) :
    ListsExact (s.detach i) := by
  have hrecord := State.record?_detach hr
  refine h.renew hr (fun j hj => by rw [hrecord, if_neg hj]) (fun q hq => ?_) (by rw [State.detach_eq hr]) (by rw [State.detach_eq hr])
  rw [hrecord, if_pos rfl] at hq
  cases hq

theorem ListsExact.release {s : State} (h : ListsExact s) (i : Index) : ListsExact (s.release i) := by
  cases hr : s.record? i with
  | none => simpa only [State.release, hr] using h
  | some r =>
    rw [State.release_eq hr]
    have hkept : ListsKept (s.detach i) { s.detach i with
        visitors := { (s.detach i).visitors with free := (s.detach i).visitors.free ++ [i] } } := .of_eq rfl rfl rfl
    exact hkept.exact (h.detach hr)

/-- A FREE record, which no list holds, becomes occupied (R16). -/
theorem ListsExact.occupy {s : State} (h : ListsExact s) {i : Index} (vacant : s.record? i = none) {r : Record}
    (mark : r.listMark = (none, false, none, false, false)) {t : State} (records : t.visitors.records = s.visitors.records.set i (some r))
    (handover : t.handover = s.handover) (claims : t.claims = s.claims) : ListsExact t := by
  have hrecord : ∀ j, t.record? j = if j = i then some r else s.record? j := fun j => by
    simp only [State.record?, records, getElem_set_fin]
  simp only [Record.listMark, Prod.mk.injEq] at mark
  obtain ⟨hslot, hstate, hqueued, htarget, hclaim⟩ := mark
  have others : ∀ j, j ≠ i → t.record? j = s.record? j := fun j hj => by rw [hrecord, if_neg hj]
  have own : ∀ q, t.record? i = some q → q = r := fun q hq => by
    rw [hrecord, if_pos rfl] at hq
    exact (Option.some.inj hq).symm
  have hq : r.queued = false := by
    cases hrq : r.queued with
    | false => rfl
    | true => simp [Record.queuedAs, hrq] at hqueued
  refine ⟨h.slots.unname others (fun q hq => ?_) (fun k => ?_), h.queues.unqueue others (fun x hx => ?_) ?_,
    h.claims.drop others (fun q hq => ?_) ?_⟩
  · rw [own q hq]
    exact ⟨hslot, by simpa using hstate⟩
  · rw [h.slots.names_slotless (fun q hq => by rw [vacant] at hq; cases hq), handover]
  · rw [own x hx]
    exact ⟨hq, by simpa using htarget⟩
  · rw [handover]
    ext1 c hc
    refine ((HandoverUnit.queues_dequeue s.handover i ⟨c, hc⟩).trans (List.filter_eq_self.mpr fun j hj => ?_)).symm
    have hm := (h.queues.mem_iff ⟨c, hc⟩ j).mp hj
    simpa using fun e => by rw [e, vacant] at hm; cases hm
  · rw [own q hq]
    exact hclaim
  · rw [claims]
    refine (List.filter_eq_self.mpr fun e he => ?_).symm
    have hm := (h.claims.mem_iff e.index).mp (List.mem_map_of_mem he)
    simpa using fun hi => by rw [hi, vacant] at hm; cases hm

theorem ListsExact.allocate {s : State} (h : ListsExact s) (sound : TableSound s.visitors) {unit seq : Nat} {cls : RadioClass}
    {state : RecordState} (hstate : state ≠ .transit) {t : State} {i : Index}
    (given : s.allocate unit cls seq state = some (t, i)) : ListsExact t := by
  have hmark : (Record.fresh unit cls seq state s.sweep.parity).listMark = (none, false, none, false, false) := by
    simpa [Record.listMark, Record.queuedAs, Record.fresh] using hstate
  rcases State.allocate_of_vacant given with ⟨rest, hfree, rfl⟩ | ⟨r, hr, -, rfl⟩
  · exact h.occupy ((sound.partition.free_iff i).mp (by simp [hfree])) hmark rfl rfl rfl
  · exact (h.detach hr).occupy (by rw [State.record?_detach hr, if_pos rfl]) hmark rfl rfl rfl

/-- The record of a transaction is TRANSIT, and names its slot (R91). -/
theorem SlotsExact.record_of {s : State} (h : SlotsExact s) {k : Fin 8} {x : Transaction} (hx : s.handover.slots[k].transaction = some x) :
    ∃ r, s.record? x.record = some r ∧ r.slot = some k ∧ r.state = .transit := by
  obtain ⟨r, hr, hslot⟩ := (Option.any_eq_true _ _).mp ((h.named k x.record).mp (by rw [hx]; rfl))
  have hslot : r.slot = some k := beq_iff_eq.mp hslot
  exact ⟨r, hr, hslot, (h.transit x.record r hr).mp (by rw [hslot]; rfl)⟩

theorem State.record?_failed_other (s : State) (k : Fin 8) (x : Transaction) (cool : Option Nat) {j : Index} (hj : j ≠ x.record) :
    (s.failed k x cool).record? j = s.record? j := by rw [State.record?_failed, if_neg hj]

theorem State.record?_failed_own {s : State} {x : Transaction} {r : Record} (hr : s.record? x.record = some r) (k : Fin 8)
    (cool : Option Nat) : (s.failed k x cool).record? x.record = some (r.afterFailure x.target cool) := by
  rw [State.record?_failed, if_pos rfl, hr]
  rfl

/-- A TRANSIT record back to ACTIVE and its slot FREE (R108). -/
theorem SlotsExact.failTransaction {s : State} (h : SlotsExact s) (k : Fin 8) (cooldown : Bool) :
    SlotsExact (s.failTransaction k cooldown) := by
  cases hx : s.handover.slots[k].transaction with
  | none => rw [State.failTransaction_free hx]; exact h
  | some x =>
    rw [State.failTransaction_eq hx]
    generalize (if cooldown = true then some s.selected.refusalCooldown else none) = cool
    obtain ⟨r, hr, hslot, -⟩ := h.record_of hx
    have hslots : ∀ j : Fin 8, (s.failed k x cool).handover.slots[j].transaction =
        if j = k then none else s.handover.slots[j].transaction :=
      fun j => by
        simp only [State.failed, getElem_set_fin]
        split <;> rfl
    refine h.unname (i := x.record) (fun j hj => s.record?_failed_other k x cool hj) (fun q hq => ?_) (fun j => ?_)
    · rw [State.record?_failed_own hr] at hq
      cases hq
      exact ⟨rfl, by simp [Record.afterFailure]⟩
    · rw [h.names_filter hr, hslots, hslot]
      simp only [Option.some.injEq, eq_comm (a := k)]
      split <;> rfl

theorem ListsExact.failTransaction {s : State} (h : ListsExact s) (k : Fin 8) (cooldown : Bool) :
    ListsExact (s.failTransaction k cooldown) := by
  have hslots := h.slots.failTransaction k cooldown
  cases hx : s.handover.slots[k].transaction with
  | none => rw [State.failTransaction_free hx]; exact h
  | some x =>
    rw [State.failTransaction_eq hx] at hslots ⊢
    generalize (if cooldown = true then some s.selected.refusalCooldown else none) = cool at hslots ⊢
    obtain ⟨r, hr, -, hstate⟩ := h.slots.record_of hx
    obtain ⟨hqueued, htarget⟩ := h.queues.unqueued hr (by simp [hstate])
    have others : ∀ j, j ≠ x.record → (s.failed k x cool).record? j = s.record? j := fun j hj => s.record?_failed_other k x cool hj
    have own := State.record?_failed_own hr k cool
    refine ⟨hslots, h.queues.change others (fun q hq => ?_) h.queues.nodup (fun _ _ _ => .rfl) (fun c => ?_),
      h.claims.change others h.claims.nodup (fun _ _ => .rfl) ?_⟩
    · rw [own] at hq
      cases hq
      simp [Record.afterFailure, hqueued, htarget]
    · rw [own]
      have hn : x.record ∉ (s.failed k x cool).handover.queues[c] := h.queues.not_mem hr hqueued c
      simpa [Record.afterFailure, hqueued] using hn
    · rw [own]
      refine (h.claims.mem_iff x.record).trans ?_
      rw [hr]
      simp [Record.afterFailure]

theorem ListsExact.failWithCancel {s : State} (h : ListsExact s) (k : Fin 8) (cooldown : Bool) :
    ListsExact (s.failWithCancel k cooldown).1 := by
  have hcancel : ListsKept s (s.offerCancel k).1 := by
    rw [State.offerCancel_frame]
    exact .of_eq rfl rfl rfl
  exact (hcancel.exact h).failTransaction k cooldown

/-- A slot's transaction replaced by one of the same record (R99, R105). -/
theorem ListsKept.setTransaction {s : State} {k : Fin 8} {x y : Transaction} {t : State}
    (hx : s.handover.slots[k].transaction = some x) (records : t.visitors.records = s.visitors.records)
    (handover : t.handover = s.handover.setTransaction k y) (claims : t.claims = s.claims) (record : y.record = x.record) :
    ListsKept s t where
  marks i := by rw [State.record?_congr records]
  names j := by
    rw [handover]
    simp only [HandoverUnit.setTransaction, getElem_set_fin]
    split
    next hj => rw [hj, hx, Option.map_some, Option.map_some, record]
    next => rfl
  queues := by rw [handover]; rfl
  claims := by rw [claims]

theorem ListsExact.moveAttempt {s : State} (h : ListsExact s) (k : Fin 8) : ListsExact (s.moveAttempt k).1 := by
  unfold State.moveAttempt
  split
  · exact h
  next x hx =>
    split
    · exact h
    · split
      · exact h.failWithCancel k true
      · split
        · exact h.failWithCancel k true
        · split
          · exact ListsKept.exact (.setTransaction hx rfl rfl rfl rfl) h
          · split
            · exact ListsKept.exact (.setTransaction hx rfl rfl rfl rfl) h
            · exact ListsKept.exact (.setTransaction hx rfl rfl rfl rfl) h

theorem ListsExact.failAsked {s : State} (h : ListsExact s) (test : Nat → Bool) (cooldown : Bool) :
    ListsExact (s.failAsked test cooldown) :=
  State.failAsked_induction (P := ListsExact) (fun _ k hu => hu.failTransaction k cooldown) s test h

/-- What a withdrawal by target leaves of a record (R90, R137). -/
theorem State.record?_withdrawTargets (s : State) (test : Nat → Bool) (i : Index) : (s.withdrawTargets test).record? i =
    (s.record? i).map (fun r => if (r.queued && r.target.any test) = true then r.unqueued else r) := by
  unfold State.withdrawTargets
  exact s.record?_mapRecords i _

theorem HandoverUnit.queues_withdrawTargets (s : State) (test : Nat → Bool) (c : Fin 4) : (s.withdrawTargets test).handover.queues[c] =
    s.handover.queues[c].filter (fun i => !(s.record? i).any (fun r => r.queued && r.target.any test)) := by
  simp [State.withdrawTargets, State.record?]

theorem ListsExact.withdrawTargets {s : State} (h : ListsExact s) (test : Nat → Bool) : ListsExact (s.withdrawTargets test) := by
  have hrecord := s.record?_withdrawTargets test
  refine ⟨⟨fun k i => ?_, fun i r hr => ?_⟩, ⟨fun c => ?_, fun c i => ?_, fun i r hr => ?_⟩, ⟨h.claims.nodup, fun i => ?_⟩⟩
  · refine (h.slots.named k i).trans ?_
    rw [hrecord, Option.any_map]
    refine iff_of_eq (congrArg (· = true) (congrArg (fun p => Option.any p _) (funext fun r => ?_)))
    split <;> rfl
  · rw [hrecord] at hr
    obtain ⟨q, hq, rfl⟩ := Option.map_eq_some_iff.mp hr
    split
    · exact h.slots.transit i q hq
    · exact h.slots.transit i q hq
  · rw [HandoverUnit.queues_withdrawTargets]
    exact (h.queues.nodup c).filter _
  · rw [HandoverUnit.queues_withdrawTargets, List.mem_filter, h.queues.mem_iff c i, hrecord]
    cases s.record? i with
    | none => simp
    | some r =>
      simp only [Option.any_some, Option.map_some]
      split
      next hit => simp [hit, Record.unqueued]
      next hit => simp [hit]
  · rw [hrecord] at hr
    obtain ⟨q, hq, rfl⟩ := Option.map_eq_some_iff.mp hr
    split
    · exact ⟨nofun, rfl⟩
    · exact h.queues.queued i q hq
  · refine (h.claims.mem_iff i).trans ?_
    rw [hrecord, Option.any_map]
    refine iff_of_eq (congrArg (· = true) (congrArg (fun p => Option.any p _) (funext fun r => ?_)))
    split <;> rfl

theorem State.record?_oweClaim (s : State) (i j : Index) (fresh : Bool) : (s.oweClaim i fresh).record? j =
    if j = i then (s.record? i).map (fun r => { r with claimPending := true }) else s.record? j := by
  have h := s.record?_modifyRecord i j (fun r => { r with claimPending := true })
  unfold State.oweClaim
  dsimp only
  split <;> exact h

/-- The pending-claims list with a record put on it, or confirmed on it (R65). -/
theorem State.oweClaim_indices (s : State) (i : Index) (fresh : Bool) : (s.oweClaim i fresh).claims.map PendingClaim.index =
    if i ∈ s.claims.map PendingClaim.index then s.claims.map PendingClaim.index else s.claims.map PendingClaim.index ++ [i] := by
  have hany : (s.claims.any fun e => e.index == i) = true ↔ i ∈ s.claims.map PendingClaim.index := by simp
  have hmap : (s.claims.map fun e => if e.index = i then { e with fresh := e.fresh || fresh } else e).map PendingClaim.index =
      s.claims.map PendingClaim.index := by
    rw [List.map_map]
    refine List.map_congr_left fun e _ => ?_
    simp only [Function.comp_apply]
    split <;> rfl
  unfold State.oweClaim
  dsimp only
  split
  next h =>
    rw [if_pos (hany.mp h)]
    exact hmap
  next h =>
    rw [if_neg (mt hany.mpr h), List.map_append]
    rfl

theorem State.map_oweClaim {α : Type} {m : Record → α} (hm : ∀ r : Record, m { r with claimPending := true } = m r) (s : State)
    (i j : Index)
    (fresh : Bool) : ((s.oweClaim i fresh).record? j).map m = (s.record? j).map m := by
  rw [State.record?_oweClaim, ← State.record?_modifyRecord]
  exact State.map_modifyRecord (fun r _ => hm r) j

theorem ListsExact.oweClaim {s : State} (h : ListsExact s) {i : Index} (held : s.record? i ≠ none) (fresh : Bool) :
    ListsExact (s.oweClaim i fresh) := by
  obtain ⟨r, hr⟩ := Option.ne_none_iff_exists'.mp held
  have hown : (s.oweClaim i fresh).record? i = some { r with claimPending := true } := by
    rw [State.record?_oweClaim, if_pos rfl, hr]
    rfl
  have hindices := s.oweClaim_indices i fresh
  refine ⟨h.slots.same (fun j => s.map_oweClaim (fun _ => rfl) i j fresh) (fun k => by rw [State.oweClaim_handover]),
    h.queues.same (fun j => s.map_oweClaim (fun _ => rfl) i j fresh) (by rw [State.oweClaim_handover]),
    h.claims.change (fun j hj => by rw [State.record?_oweClaim, if_neg hj]) ?_ (fun j hj => ?_) ?_⟩
  · rw [hindices]
    split
    · exact h.claims.nodup
    next hn =>
      refine List.nodup_append.mpr ⟨h.claims.nodup, List.nodup_singleton i, fun j hj k hk => ?_⟩
      rw [List.mem_singleton.mp hk]
      rintro rfl
      exact hn hj
  · rw [hindices]
    split <;> simp [hj]
  · rw [hindices, hown]
    split <;> simp_all

theorem ListsExact.changeClass {s : State} (h : ListsExact s) (i : Index) (cls : RadioClass) : ListsExact (s.changeClass i cls) := by
  unfold State.changeClass
  split
  next => exact h
  next r hr =>
    have hclass : ∀ {α : Type} {m : Record → α}, (∀ r : Record, m { r with cls := cls } = m r) →
        ∀ j, ((s.modifyRecord i (fun r => { r with cls := cls })).record? j).map m = (s.record? j).map m :=
      fun hm => State.map_modifyRecord fun r _ => hm r
    dsimp only
    split
    next hq =>
      have hown : (s.modifyRecord i (fun r => { r with cls := cls })).record? i = some { r with cls := cls } := by simp [hr]
      obtain ⟨hactive, htarget⟩ := h.queues.queued i r hr
      exact ⟨h.slots.same (hclass fun _ => rfl) fun _ => rfl,
        h.queues.requeue (fun j hj => (s.record?_modifyRecord i j _).trans (if_neg hj)) hown hq.1 (hactive hq.1)
          (by rw [htarget, hq.1]) rfl,
        h.claims.same (hclass fun _ => rfl) rfl⟩
    next hq =>
      refine ListsKept.exact (.modifyRecord s i fun q hq' => ?_) h
      rw [hr] at hq'
      cases hq'
      cases hrq : r.queued with
      | false => simp [Record.listMark, Record.queuedAs, hrq]
      | true =>
        have hcls : r.cls = cls := by simpa [hrq] using hq
        simp [Record.listMark, Record.queuedAs, hrq, hcls]

/-- An ACTIVE record goes LOST, and leaves its class queue (R79, R90). -/
theorem ListsExact.lose {s : State} (h : ListsExact s) {i : Index} {r : Record} (hr : s.record? i = some r) (state : r.state = .active) :
    ListsExact (s.lose i r) := by
  rw [State.lose_eq]
  have hrecord := s.record?_modifyRecord i (f := fun r => { r with state := .lost, queued := false, target := none, stateAge := 0 })
  refine ⟨h.slots.same (State.map_modifyRecord fun q hq => ?_) fun _ => rfl, h.queues.unqueue (fun j hj => ?_) (fun q hq => ?_) rfl,
    h.claims.same (State.map_modifyRecord fun _ _ => rfl) rfl⟩
  · rw [hr] at hq
    cases hq
    simp [state]
  · exact (hrecord j).trans (if_neg hj)
  · have hown := (hrecord i).symm.trans hq
    rw [if_pos rfl, hr] at hown
    cases hown
    exact ⟨rfl, rfl⟩

/-- A decision of an ACTIVE record leaves it queued in the queue of its class, or unqueued (R84 to R86). -/
theorem ListsExact.decideHandover {s : State} (h : ListsExact s) (p : Snapshot) {i : Index} {r : Record} (hr : s.record? i = some r)
    (state : r.state = .active) : ListsExact (s.decideHandover p i r) := by
  rw [h.queues.decideHandover_eq p hr]
  have hrecord := s.record?_modifyRecord i (f := fun _ => r.decided p (s.winner p r))
  have hown : (s.modifyRecord i (fun _ => r.decided p (s.winner p r))).record? i = some (r.decided p (s.winner p r)) := by
    rw [hrecord, if_pos rfl, hr]
    rfl
  have others : ∀ j, j ≠ i → (s.modifyRecord i (fun _ => r.decided p (s.winner p r))).record? j = s.record? j :=
    fun j hj => (hrecord j).trans (if_neg hj)
  refine ⟨h.slots.same (State.map_modifyRecord fun q hq => ?_) (fun k => ?_), ?_,
    h.claims.same (State.map_modifyRecord fun q hq => ?_) rfl⟩
  · rw [hr] at hq
    cases hq
    rfl
  · rw [HandoverUnit.decided_eq]
  · unfold HandoverUnit.decided
    split
    next hstays =>
      refine h.queues.same (State.map_modifyRecord fun q hq => ?_) rfl
      rw [hr] at hq
      cases hq
      rw [h.queues.decided_of_stays hr hstays]
      rfl
    next =>
      split
      next hsome => exact h.queues.requeue others hown hsome state hsome rfl
      next hnone =>
        refine h.queues.unqueue others (fun q hq => ?_) rfl
        cases hown.symm.trans hq
        have hfalse : (r.decidedTarget p (s.winner p r)).isSome = false := by simpa using hnone
        exact ⟨hfalse, Option.not_isSome_iff_eq_none.mp hnone⟩
  · rw [hr] at hq
    cases hq
    rfl

theorem ListsKept.raiseAlarm (s : State) (key : AlarmKey) (detail : Nat) : ListsKept s (s.raiseAlarm key detail) := .of_eq rfl rfl rfl

theorem ListsKept.countTalkgroups (s : State) (unit : Nat) (l : List Nat) : ListsKept s (s.countTalkgroups unit l).1 := by
  rw [State.countTalkgroups_eq]
  exact .of_eq rfl rfl rfl

theorem ListsKept.setTalkgroups (s : State) (i : Index) (unit : Nat) (old requested : List Nat) :
    ListsKept s (s.setTalkgroups i unit old requested) := by
  have huncount : ListsKept s (s.uncountTalkgroups (old.filter fun tg => !requested.contains tg)) := .of_eq rfl rfl rfl
  unfold State.setTalkgroups
  dsimp only
  exact (huncount.trans (.countTalkgroups _ unit _)).trans (.modifyRecord _ i fun _ _ => rfl)

theorem ListsKept.markHeard (s : State) (i : Index) : ListsKept s (s.markHeard i) :=
  (ListsKept.modifyRecord s i (f := fun r => { r with heard := true }) fun _ _ => rfl).trans (.of_eq rfl rfl rfl)

theorem ListsKept.occupied {s t : State} (k : ListsKept s t) {i : Index} (h : s.record? i ≠ none) : t.record? i ≠ none := by
  intro hn
  have hm := k.marks i
  rw [hn] at hm
  exact h (Option.map_eq_none_iff.mp hm.symm)

theorem State.changeClass_occupied {s : State} {i j : Index} {cls : RadioClass} (h : s.record? j ≠ none) :
    (s.changeClass i cls).record? j ≠ none := by
  have hm : ((s.modifyRecord i (fun r => { r with cls := cls })).record? j) ≠ none := by
    rw [State.record?_modifyRecord]
    split
    next hj => subst hj; simpa using h
    next => exact h
  unfold State.changeClass
  split
  · exact h
  · dsimp only
    split
    · exact hm
    · exact hm

theorem ListsExact.written {s : State} (h : ListsExact s) {i : Index} (hi : s.record? i ≠ none) (c : Fin 4) (f : RegisterFields)
    (old : List Nat) (claim : Bool) : ListsExact (s.written c f i old claim) := by
  have hclass := h.changeClass i ((RadioClass.ofCode f.cls).getD .general)
  have hoccupied : (s.changeClass i ((RadioClass.ofCode f.cls).getD .general)).record? i ≠ none := State.changeClass_occupied hi
  revert hclass hoccupied
  unfold State.written
  generalize s.changeClass i ((RadioClass.ofCode f.cls).getD .general) = u
  intro hclass hoccupied
  have hkept := (((ListsKept.modifyRecord u i (f := fun r => { r with serving := some c }) fun _ _ => rfl).trans
    (.modifyRecord _ i (f := fun r => { r with home := some ((s.scored f.attenuation f.grade).into r.home).1 }) fun _ _ => rfl)).trans
    (.markHeard _ i)).trans (.setTalkgroups _ i f.unit old (requestedList f.talkgroups))
  dsimp only
  split
  · exact (hkept.exact hclass).oweClaim (hkept.occupied hoccupied) f.fresh
  · exact hkept.exact hclass

/-- A LOST record back to ACTIVE is in no list that tells the two apart (R56). -/
theorem ListsExact.reactivate {s : State} (h : ListsExact s) {i : Index} {q r : Record} (hq : s.record? i = some q)
    (state : q.state = r.state) : ListsExact (s.reactivate i r) := by
  unfold State.reactivate
  split
  next hlost =>
    have hcount := ListsKept.countTalkgroups s r.unit r.talkgroups
    have hcounted := hcount.exact h
    dsimp only
    refine ListsKept.exact (.modifyRecord _ i fun x hx => ?_) hcounted
    have hx' : s.record? i = some x := by
      rw [State.countTalkgroups_eq] at hx
      exact hx
    rw [hq] at hx'
    cases hx'
    obtain ⟨hqueued, -⟩ := h.queues.unqueued hq (by simp [state, hlost])
    simp [Record.listMark, Record.queuedAs, hqueued, state, hlost]
  next => exact h

theorem ListsExact.kept {s t : State} (h : ListsExact s) (k : ListsKept s t) : ListsExact t := k.exact h

theorem ListsExact.islanded {s : State} (h : ListsExact s) : ListsExact s.islanded := by
  have hdown : ListsKept s s.allDown := .of_eq rfl rfl rfl
  exact ((hdown.exact h).failAsked _ _).withdrawTargets _

theorem ListsKept.linkShut (s : State) : ListsKept s s.linkShut := .of_eq rfl rfl rfl

theorem ListsExact.closeLink {s : State} (h : ListsExact s) (cause : Kind) : ListsExact (s.closeLink cause) := by
  rw [State.closeLink_eq]
  exact ((ListsKept.linkShut _).trans (.raiseAlarm _ _ _)).exact h.islanded

theorem ListsExact.removeSite {s : State} (h : ListsExact s) (site : Nat) : ListsExact (s.removeSite site) := by
  have hentries : ListsKept s (s.mapRecords (fun r => { r with neighbours := r.neighbours.filter (fun e => e.site != site) })) :=
    .mapRecords s fun _ => rfl
  exact ((hentries.exact h).withdrawTargets _).failAsked _ _

theorem ListsExact.neighbourDown {s : State} (h : ListsExact s) (site : Nat) : ListsExact (s.neighbourDown site) := by
  have hcleared := (h.failAsked (fun t => t == site) true).withdrawTargets (fun t => t == site)
  unfold State.neighbourDown
  exact (ListsKept.raiseAlarm _ _ _).exact hcleared

theorem ListsKept.setNeighbourSlot (s : State) (k : Fin 12) (n : Option Neighbour) : ListsKept s (s.setNeighbourSlot k n) :=
  .of_eq rfl rfl rfl

theorem State.record?_siteReset (s : State) (i : Index) : s.siteReset.record? i = none := by
  simp [State.siteReset, State.record?, VisitorTable.siteReset, VisitorTable.reset]

theorem State.siteReset_slots (s : State) (k : Fin 8) : s.siteReset.handover.slots[k] = ⟨s.handover.slots[k].generation, none⟩ := by
  simp [State.siteReset, Slot.freed]

theorem State.siteReset_queues (s : State) (c : Fin 4) : s.siteReset.handover.queues[c] = [] := by
  simp [State.siteReset]

/-- With no record occupied and every list empty there is nothing to disagree. -/
theorem ListsExact.of_vacant {s : State} (records : ∀ i : Index, s.record? i = none)
    (slots : ∀ k : Fin 8, s.handover.slots[k].transaction = none) (queues : ∀ c : Fin 4, s.handover.queues[c] = [])
    (claims : s.claims = []) : ListsExact s := by
  refine ⟨⟨fun k i => ?_, fun i r hr => ?_⟩, ⟨fun c => ?_, fun c i => ?_, fun i r hr => ?_⟩, ⟨?_, fun i => ?_⟩⟩
  · rw [slots, records]
    exact ⟨nofun, nofun⟩
  · rw [records] at hr
    cases hr
  · rw [queues]
    exact List.nodup_nil
  · rw [queues, records]
    exact ⟨nofun, nofun⟩
  · rw [records] at hr
    cases hr
  · rw [claims]
    exact List.nodup_nil
  · rw [claims, records]
    exact ⟨nofun, nofun⟩

/-- A record in EXPECTED or LOST asked for again (R116, R117). -/
theorem ListsExact.asked {s : State} (h : ListsExact s) {i : Index} {r : Record} (hr : s.record? i = some r)
    (state : r.state ≠ .active ∧ r.state ≠ .transit) (f : AskFields) : ListsExact (s.modifyRecord i (fun x => x.asked f)) := by
  obtain ⟨hqueued, -⟩ := h.queues.unqueued hr state.1
  refine ListsKept.exact (.modifyRecord s i fun q hq => ?_) h
  rw [hr] at hq
  cases hq
  simp [Record.listMark, Record.queuedAs, Record.asked, hqueued, state.2]

/-- A record off the pending-claims list (R117). -/
theorem ListsExact.dropClaim {s : State} (h : ListsExact s) (i : Index) : ListsExact (s.dropClaim i) := by
  have hrecord := s.record?_dropClaim i
  refine ⟨h.slots.same (State.map_modifyRecord fun _ _ => rfl) fun _ => rfl, h.queues.same (State.map_modifyRecord fun _ _ => rfl) rfl,
    h.claims.drop (fun j hj => by rw [hrecord, if_neg hj]) (fun q hq => ?_) rfl⟩
  rw [hrecord, if_pos rfl] at hq
  obtain ⟨r, -, rfl⟩ := Option.map_eq_some_iff.mp hq
  rfl

/-- A record readmitted is in the lists that it was in (R51 to R56). -/
theorem ListsExact.readmitted {s : State} (h : ListsExact s) {i : Index} {r : Record} (hr : s.record? i = some r) (seq : Nat) :
    ListsExact (s.modifyRecord i (fun x => x.readmitted seq)) := by
  refine ListsKept.exact (.modifyRecord s i fun q hq => ?_) h
  rw [hr] at hq
  cases hq
  unfold Record.readmitted
  split
  next hstate =>
    obtain ⟨hqueued, -⟩ := h.queues.unqueued hr (by simp [hstate])
    simp [Record.listMark, Record.queuedAs, hqueued, hstate]
  next => rfl
  next => rfl
  next hstate =>
    obtain ⟨hqueued, -⟩ := h.queues.unqueued hr (by simp [hstate])
    simp [Record.listMark, Record.queuedAs, hqueued, hstate]

theorem ListsKept.poll (s : State) (p : Snapshot) (r : Record) : ListsKept s (s.poll p r) := by
  unfold State.poll
  split
  · exact .refl s
  · split
    · exact .of_eq rfl rfl rfl
    · exact .refl s

/-- Every change keeps the lists in step with the records. -/
theorem ListsExact.deed {s t : State} (hd : Deed s t) (sound : TableSound s.visitors) (h : ListsExact s) : ListsExact t := by
  cases hd with
  | fail k cooldown => exact h.failTransaction k cooldown
  | attempt k => exact h.moveAttempt k
  | offer n => rw [State.offered_eq]; exact h.kept (.of_eq rfl rfl rfl)
  | outbound l p => exact h.kept (.of_eq (by simp) (by simp) (by simp))
  | closeLink cause => exact h.closeLink cause
  | hear i r held =>
    have hheard : (s.markHeard i).record? i = some { r with heard := true } := by simp [held]
    exact ((ListsKept.markHeard s i).exact h).reactivate hheard rfl
  | call i inCall => exact h.kept (.modifyRecord s i fun _ _ => rfl)
  | uplink i a g => exact h.kept (.modifyRecord s i fun _ _ => rfl)
  | downlink i r a g site t held known routed => exact h.kept (.modifyRecord s i fun _ _ => rfl)
  | enter c f t i absent range given =>
    exact (h.allocate sound (by decide) given).written (by simp [State.record?_allocate given]) c f [] true
  | readmit c f i r seq claim held unit range stored => exact (h.readmitted held seq).written (by simp [held]) c f _ claim
  | release i => exact h.release i
  | askNew f t i absent range given =>
    have hfresh := State.record?_allocate given
    exact (h.allocate sound (by decide) given).asked hfresh ⟨by simp [Record.fresh], by simp [Record.fresh]⟩ f
  | askExpected f i r held state range => exact h.asked held (by simp [state]) f
  | askLost f i r held state range =>
    have hasked := (h.asked held (by simp [state]) f).dropClaim i
    exact hasked.kept (.of_eq rfl rfl rfl)
  | sweepExpiry =>
    refine h.kept (.of_eq (by rw [State.sweepExpiry_visitors]) ?_ ?_)
    · unfold State.sweepExpiry; dsimp only; split <;> simp
    · unfold State.sweepExpiry; dsimp only; split <;> simp
  | stamp i r held unvisited =>
    have hstamped : ListsKept s (s.modifyRecord i (fun r => { r with stamp := s.sweep.parity })) := .modifyRecord s i fun _ _ => rfl
    exact h.kept (hstamped.trans (.of_eq rfl rfl rfl))
  | shift i => exact h.kept (.modifyRecord s i fun _ _ => rfl)
  | lose i r held state => exact h.lose held state
  | poll p r => exact (ListsKept.poll s p r).exact h
  | ageEntries i life => exact h.kept (.modifyRecord s i fun _ _ => rfl)
  | decide p i r held state => exact h.decideHandover p held state
  | older i => exact h.kept (.modifyRecord s i fun _ _ => rfl)
  | rest i => exact h.kept (.modifyRecord s i fun _ _ => rfl)
  | replaceSlot k site gone bias range removed => exact (ListsKept.setNeighbourSlot _ k _).exact (h.removeSite gone)
  | neighbourDown site => exact h.neighbourDown site
  | siteReset => exact .of_vacant s.record?_siteReset (fun k => by rw [State.siteReset_slots]) s.siteReset_queues rfl
  | _ => exact h.kept (.of_eq rfl rfl rfl)

/-! ## The end of a step, and the step -/

/-- The head of the pending-claims list posted (R66). -/
theorem ListsExact.postClaim {s : State} (h : ListsExact s) {e : PendingClaim} {rest : List PendingClaim} (hclaims : s.claims = e :: rest) :
    ListsExact (s.postClaim e) := by
  have hrecord := s.record?_modifyRecord e.index (f := fun r => { r with claimPending := false })
  have hnodup := h.claims.nodup
  rw [hclaims, List.map_cons, List.nodup_cons] at hnodup
  obtain ⟨hnew, hnodup⟩ := hnodup
  have htail : (s.postClaim e).claims = rest := by
    show s.claims.tail = rest
    rw [hclaims]
    rfl
  refine ⟨h.slots.same (State.map_modifyRecord fun _ _ => rfl) fun _ => rfl, h.queues.same (State.map_modifyRecord fun _ _ => rfl) rfl,
    h.claims.change (i := e.index) (fun j hj => (hrecord j).trans (if_neg hj)) (by rw [htail]; exact hnodup) (fun j hj => ?_) ?_⟩
  · rw [htail, hclaims]
    simp [hj]
  · rw [htail]
    refine ⟨fun hi => absurd hi hnew, ?_⟩
    rintro ⟨q, hq, hclaim⟩
    have hown := (hrecord e.index).symm.trans hq
    rw [if_pos rfl] at hown
    obtain ⟨r, -, rfl⟩ := Option.map_eq_some_iff.mp hown
    cases hclaim

/-- A grant moves a record from its class queue to a slot (R95). -/
theorem ListsExact.grant {s : State} (h : ListsExact s) {k : Fin 8} {i : Index} {r : Record} (hg : s.nextGrant? = some (k, i, r)) :
    ListsExact (s.grant k i r) := by
  obtain ⟨hfree, ⟨c, hc⟩, hr⟩ := State.nextGrant?_eq_some hg
  have hqueued := (h.queues.mem_iff c i).mp hc
  rw [hr, Option.any_some, Bool.and_eq_true, Bool.and_eq_true, beq_iff_eq] at hqueued
  obtain ⟨⟨hactive, -⟩, -⟩ := hqueued
  have hslotless := h.slots.slot_none hr (by simp [hactive])
  have hrecord := s.record?_modifyRecord i (f := fun r => r.granted k)
  have hown : (s.grant k i r).record? i = some (r.granted k) := by
    refine (hrecord i).trans ?_
    rw [if_pos rfl, hr]
    rfl
  have others : ∀ j, j ≠ i → (s.grant k i r).record? j = s.record? j := fun j hj => (hrecord j).trans (if_neg hj)
  have hslots : ∀ j : Fin 8, (s.grant k i r).handover.slots[j].transaction.map Transaction.record =
      if j = k then some i else s.handover.slots[j].transaction.map Transaction.record := fun j => by
    have hset : (s.grant k i r).handover.slots = s.handover.slots.set k (s.handover.slots[k].granted i (r.target.getD 0) s.selected) := rfl
    rw [hset, getElem_set_fin]
    split <;> rfl
  refine ⟨⟨fun j l => ?_, fun j q hq => ?_⟩, h.queues.unqueue others (fun q hq => ?_) rfl,
    h.claims.same (State.map_modifyRecord fun _ _ => rfl) rfl⟩
  · rw [hslots]
    by_cases hl : l = i
    · subst hl
      rw [hown]
      by_cases hj : j = k
      · simp [hj, Record.granted]
      · have hnamed := h.slots.named j l
        rw [hr] at hnamed
        simpa [hj, Record.granted, hslotless, eq_comm (a := k)] using hnamed
    · rw [others l hl]
      by_cases hj : j = k
      · have hnamed := h.slots.named j l
        rw [hj, hfree] at hnamed
        rw [hj]
        simpa [Ne.symm hl, eq_comm (a := i), hl] using hnamed
      · rw [if_neg hj, h.slots.named j l]
  · by_cases hj : j = i
    · subst hj
      rw [hown] at hq
      cases hq
      exact ⟨fun _ => rfl, fun _ => rfl⟩
    · exact h.slots.transit j q (others j hj ▸ hq)
  · rw [hown] at hq
    cases hq
    exact ⟨rfl, rfl⟩

theorem ListsExact.grantPlace {s t : State} (hg : s.grantPlace = some t) (h : ListsExact s) : ListsExact t := by
  obtain ⟨-, h1 | h1 | h1 | h1 | h1⟩ := State.grantPlace_cases hg
  · obtain ⟨-, rfl⟩ := h1
    exact h.kept (.of_eq rfl rfl rfl)
  · obtain ⟨-, e, rest, hclaims, rfl⟩ := h1
    exact h.postClaim hclaims
  · obtain ⟨-, -, tg, rest, -, rfl⟩ := h1
    exact h.kept (.of_eq rfl rfl rfl)
  · obtain ⟨-, -, -, k, tg, -, rfl⟩ := h1
    exact h.kept (.of_eq rfl rfl rfl)
  · obtain ⟨-, -, -, -, k, i, r, hnext, rfl⟩ := h1
    exact h.grant hnext

/-- The end of a step keeps what the end of a sweep, every grant and the attention lines keep. -/
theorem State.settle_induction {P : State → Prop} (check : ∀ s, P s → P s.checkSweep)
    (grant : ∀ s t : State, s.grantPlace = some t → P s → P t)
    (lines : ∀ s, P s → P s.refreshLines) {s : State} (h : P s) : P s.settle :=
  lines _ (State.grantPlaces_induction grant _ _ (check s h))

theorem ListsExact.settle {s : State} (h : ListsExact s) : ListsExact s.settle :=
  State.settle_induction (P := ListsExact) (fun _ h => h.kept (.of_eq (by simp) (by simp) (by simp))) (fun _ _ => ListsExact.grantPlace)
    (fun _ h => h.kept (.of_eq rfl rfl rfl)) h

theorem TableSound.settle {s : State} (h : TableSound s.visitors) : TableSound s.settle.visitors := by
  have hcheck : TableSound s.checkSweep.visitors := by rw [State.checkSweep_visitors]; exact h
  exact (TableKept.of_endOfStep s.checkSweep.kept_runArbiter s.checkSweep.runArbiter_sweep).table hcheck

theorem State.record?_reset (i : Index) : State.reset.record? i = none := VisitorTable.reset_records i

theorem listsExact_reset : ListsExact State.reset :=
  .of_vacant State.record?_reset (fun k => by simp [State.reset, HandoverUnit.reset])
    (fun c => by simp [State.reset, HandoverUnit.reset]) rfl

/-- Timers moved on leave every slot with its record. -/
theorem ListsKept.advance (s : State) : ListsKept s s.advance where
  marks _ := rfl
  names k := by simp [State.advance, Slot.advance, Function.comp_def, Transaction.advance]
  queues := rfl
  claims := rfl

theorem lists_invariant : Invariant (fun s => TableSound s.visitors ∧ ListsExact s) (fun s => TableSound s.visitors ∧ ListsExact s) where
  start _ h := h
  pending _ _ h := ⟨h.1, h.2.kept (.of_eq rfl rfl rfl)⟩
  pinLow _ h := ⟨h.1, h.2.kept (.of_eq rfl rfl rfl)⟩
  powerOn _ := ⟨tableSound_reset, listsExact_reset.kept (.of_eq rfl rfl rfl)⟩
  tick s pin h := by
    rw [State.tick_eq pin]
    exact ⟨h.1, h.2.kept ((ListsKept.advance s).trans (.of_eq rfl rfl rfl))⟩
  deed _ _ hd h := ⟨h.1.deed hd, h.2.deed hd h.1⟩
  settle _ h := ⟨h.1.settle, h.2.settle⟩
  confirm s p c h := ⟨by simpa using h.1, h.2.kept (.of_eq (by simp) (by simp) (by simp))⟩

/-- Settles O58: every operation takes a record off the lists, or puts it on them, as it changes what the record says of them. -/
theorem stepKeepsHandoverLists : Obligations.StepKeepsHandoverLists := by
  intro s t table slots queues claims h
  obtain ⟨-, lists⟩ := lists_invariant.step h ⟨table, slots, queues, claims⟩
  exact ⟨lists.slots, lists.queues, lists.claims⟩

end Sys2Proof.Machine
end

section
/-! PROOF. What every step keeps of the ranges (R2, R12, R91, R133, R150, R169 to R173, R177, R182): the records one by one, the port
unit, the profiles and the neighbour table. -/

namespace Sys2Proof.Machine

/-! ## Blocks within their ranges -/

/-- A record within its ranges, its neighbour entries for distinct sites of a neighbour table (R2, R38, R42). -/
structure Record.Sound (table : Vector (Option Neighbour) 12) (r : Record) : Prop where
  inRange : r.inRange
  distinct : (r.neighbours.map NeighbourEntry.site).Nodup
  inTable : ∀ e ∈ r.neighbours, ∃ (k : Fin 12) (n : Neighbour), table[k] = some n ∧ n.site = e.site
  home : ∀ e ∈ r.home, e ≤ 4080
  entries : r.neighbours.length ≤ Config.neighbourEntries ∧ ∀ e ∈ r.neighbours, e.inRange

/-- The port unit within its ranges: queues within their places, alarm keys once, counts in range (R169 to R173, R182). -/
structure PortUnit.Sound (p : PortUnit) : Prop where
  link : p.link.queue.length ≤ Config.linkQueue
  channels : ∀ c : Fin 4, p.channels[c].queue.length ≤ Config.channelQueue
  chatter : ∀ c : Fin 4, p.channels[c].chatter ≤ 1023
  alarms : (p.maintenance.alarms.map Alarm.key).Nodup
  repeats : ∀ a ∈ p.maintenance.alarms, 1 ≤ a.repeats ∧ a.repeats ≤ 255
  allowance : 16 ≤ p.allowance ∧ p.allowance ≤ 1023

/-- Scores, caps and penalties in range (R30, R31). -/
structure ScoringUnit.Sound (u : ScoringUnit) : Prop where
  levels : ∀ i : Fin 61, u.levels[i].score ≤ 255 ∧ 1 ≤ u.levels[i].cap ∧ u.levels[i].cap ≤ 16
  penalties : ∀ g : Fin 16, u.penalties[g] ≤ 255

/-- The ranges, block by block. -/
structure BlocksSound (s : State) : Prop where
  ports : s.ports.Sound
  scoring : s.scoring.Sound
  profiles : ProfilesSound s
  neighbours : NeighboursSound s
  records : ∀ (i : Index) (r : Record), s.record? i = some r → r.Sound s.neighbours
  generations : ∀ k : Fin 8, s.handover.slots[k].generation ≤ 15
  reserve : s.visitors.reserve ≤ 128
  site : s.protection.site ≤ 1023

theorem rangesSound_iff (s : State) : RangesSound s ↔ BlocksSound s := by
  constructor
  · intro h
    exact {
      ports := ⟨h.queues.link, h.queues.channels, h.counts.chatter, h.queues.alarms, h.counts.repeats, h.counts.allowance⟩
      scoring := ⟨h.scores.levels, h.scores.penalties⟩
      profiles := h.scores.profiles
      neighbours := h.neighbours
      records := fun i r hr => ⟨h.records.inRange i r hr, h.records.distinct i r hr, h.records.inTable i r hr, h.scores.home i r hr,
        h.scores.entries i r hr⟩
      generations := h.counts.generations
      reserve := h.counts.reserve
      site := h.counts.site }
  · intro h
    exact {
      queues := ⟨h.ports.link, h.ports.channels, h.ports.alarms⟩
      scores := ⟨h.profiles, h.scoring.levels, h.scoring.penalties, fun i r hr => (h.records i r hr).home,
        fun i r hr => (h.records i r hr).entries⟩
      neighbours := h.neighbours
      records := ⟨fun i r hr => (h.records i r hr).inRange, fun i r hr => (h.records i r hr).distinct,
        fun i r hr => (h.records i r hr).inTable⟩
      counts := ⟨h.reserve, h.ports.allowance, h.ports.chatter, h.generations, h.ports.repeats, h.site⟩ }

/-- What is left to show of a change that leaves the configuration alone. -/
theorem BlocksSound.change {s t : State} (h : BlocksSound s) (ports : t.ports.Sound)
    (records : ∀ (i : Index) (r : Record), t.record? i = some r → r.Sound s.neighbours)
    (generations : ∀ k : Fin 8, t.handover.slots[k].generation ≤ 15) (scoring : t.scoring = s.scoring := by rfl)
    (profiles : t.profiles = s.profiles := by rfl) (neighbours : t.neighbours = s.neighbours := by rfl)
    (protection : t.protection = s.protection := by rfl) (reserve : t.visitors.reserve = s.visitors.reserve := by rfl) : BlocksSound t where
  ports := ports
  scoring := scoring ▸ h.scoring
  profiles := ⟨profiles ▸ h.profiles.normal, profiles ▸ h.profiles.incident, profiles ▸ h.profiles.selection⟩
  neighbours := ⟨by rw [neighbours, protection]; exact h.neighbours.inRange, by rw [neighbours]; exact h.neighbours.distinct⟩
  records i r hr := neighbours ▸ records i r hr
  generations := generations
  reserve := reserve ▸ h.reserve
  site := protection ▸ h.site

/-! ## Records -/

/-- The numbers of a record that have a range. -/
def Record.numbers (r : Record) : Nat × Nat × List Nat × Option Nat × Nat × Option Nat × Option Nat × List NeighbourEntry :=
  (r.unit, r.seq, r.talkgroups, r.target, r.stateAge, r.origin, r.home, r.neighbours)

theorem Record.Sound.same {table : Vector (Option Neighbour) 12} {r q : Record} (h : r.Sound table) (numbers : q.numbers = r.numbers) :
    q.Sound table := by
  simp only [Record.numbers, Prod.mk.injEq] at numbers
  obtain ⟨hunit, hseq, htalkgroups, htarget, hage, horigin, hhome, hneighbours⟩ := numbers
  refine ⟨⟨?_, ?_, ?_, ?_, ?_, ?_⟩, ?_, ?_, ?_, ?_⟩
  · rw [hunit]; exact h.inRange.unit
  · rw [hseq]; exact h.inRange.seq
  · rw [htalkgroups]; exact h.inRange.talkgroups
  · rw [htarget]; exact h.inRange.target
  · rw [hage]; exact h.inRange.stateAge
  · rw [horigin]; exact h.inRange.origin
  · rw [hneighbours]; exact h.distinct
  · rw [hneighbours]; exact h.inTable
  · rw [hhome]; exact h.home
  · rw [hneighbours]; exact h.entries

/-- Entries for some of the sites of the entries before, each in range (R42, R81). -/
theorem Record.Sound.withEntries {table : Vector (Option Neighbour) 12} {r : Record} (h : r.Sound table) {l : List NeighbourEntry}
    (sites : (l.map NeighbourEntry.site).Sublist (r.neighbours.map NeighbourEntry.site)) (inRange : ∀ e ∈ l, e.inRange) :
    ({ r with neighbours := l } : Record).Sound table where
  inRange := ⟨h.inRange.unit, h.inRange.seq, h.inRange.talkgroups, h.inRange.target, h.inRange.stateAge, h.inRange.origin⟩
  distinct := h.distinct.sublist sites
  inTable e he := by
    obtain ⟨d, hd, hsite⟩ := List.mem_map.mp (sites.subset (List.mem_map_of_mem he))
    rw [← hsite]
    exact h.inTable d hd
  home := h.home
  entries := ⟨(by simpa using sites.length_le : l.length ≤ r.neighbours.length).trans h.entries.1, inRange⟩

/-- A field of each entry changed within its range (R81, R85, R108). -/
theorem Record.Sound.mapEntries {table : Vector (Option Neighbour) 12} {r : Record} (h : r.Sound table)
    {f : NeighbourEntry → NeighbourEntry}
    (site : ∀ e, (f e).site = e.site) (inRange : ∀ e : NeighbourEntry, e.inRange → (f e).inRange) :
    ({ r with neighbours := r.neighbours.map f } : Record).Sound table := by
  refine h.withEntries ?_ fun e he => ?_
  · rw [List.map_map]
    have hsites : r.neighbours.map (NeighbourEntry.site ∘ f) = r.neighbours.map NeighbourEntry.site := List.map_congr_left fun e _ => site e
    exact hsites ▸ .refl _
  · obtain ⟨d, hd, rfl⟩ := List.mem_map.mp he
    exact inRange d (h.entries.2 d hd)

theorem Record.Sound.afterFailure {table : Vector (Option Neighbour) 12} {r : Record} (h : r.Sound table) (target : Nat)
    {cooldown : Option Nat}
    (range : ∀ n ∈ cooldown, n ≤ 63) : (r.afterFailure target cooldown).Sound table := by
  refine Record.Sound.same (h.mapEntries (f := fun e => e.afterFailure target cooldown) (fun _ => rfl) fun e he => ?_) rfl
  obtain ⟨hestimate, hage, -, hcooldown⟩ := he
  refine ⟨hestimate, hage, Nat.zero_le _, ?_⟩
  unfold NeighbourEntry.afterFailure
  dsimp only
  split
  · cases cooldown with
    | none => exact hcooldown
    | some n => exact range n rfl
  · exact hcooldown

theorem Record.Sound.withHome {table : Vector (Option Neighbour) 12} {r : Record} (h : r.Sound table) {n : Nat} (range : n ≤ 4080) :
    ({ r with home := some n } : Record).Sound table where
  inRange := ⟨h.inRange.unit, h.inRange.seq, h.inRange.talkgroups, h.inRange.target, h.inRange.stateAge, h.inRange.origin⟩
  distinct := h.distinct
  inTable := h.inTable
  home e he := by cases he; exact range
  entries := h.entries

theorem Record.Sound.withTalkgroups {table : Vector (Option Neighbour) 12} {r : Record} (h : r.Sound table) {l : List Nat}
    (range : l.length ≤ 4 ∧ ∀ tg ∈ l, 1 ≤ tg ∧ tg ≤ 65534) : ({ r with talkgroups := l } : Record).Sound table where
  inRange := ⟨h.inRange.unit, h.inRange.seq, range, h.inRange.target, h.inRange.stateAge, h.inRange.origin⟩
  distinct := h.distinct
  inTable := h.inTable
  home := h.home
  entries := h.entries

theorem Record.Sound.withStateAge {table : Vector (Option Neighbour) 12} {r : Record} (h : r.Sound table) {n : Nat} (range : n ≤ 255) :
    ({ r with stateAge := n } : Record).Sound table where
  inRange := ⟨h.inRange.unit, h.inRange.seq, h.inRange.talkgroups, h.inRange.target, range, h.inRange.origin⟩
  distinct := h.distinct
  inTable := h.inTable
  home := h.home
  entries := h.entries

theorem Record.Sound.withTarget {table : Vector (Option Neighbour) 12} {r : Record} (h : r.Sound table) {o : Option Nat}
    (range : ∀ site ∈ o, 1 ≤ site ∧ site ≤ 1023) : ({ r with target := o } : Record).Sound table where
  inRange := ⟨h.inRange.unit, h.inRange.seq, h.inRange.talkgroups, range, h.inRange.stateAge, h.inRange.origin⟩
  distinct := h.distinct
  inTable := h.inTable
  home := h.home
  entries := h.entries

theorem Record.Sound.withOrigin {table : Vector (Option Neighbour) 12} {r : Record} (h : r.Sound table) {o : Option Nat}
    (range : ∀ site ∈ o, 1 ≤ site ∧ site ≤ 1023) : ({ r with origin := o } : Record).Sound table where
  inRange := ⟨h.inRange.unit, h.inRange.seq, h.inRange.talkgroups, h.inRange.target, h.inRange.stateAge, range⟩
  distinct := h.distinct
  inTable := h.inTable
  home := h.home
  entries := h.entries

theorem Record.Sound.withSeq {table : Vector (Option Neighbour) 12} {r : Record} (h : r.Sound table) {n : Nat} (range : n ≤ 15) :
    ({ r with seq := n } : Record).Sound table where
  inRange := ⟨h.inRange.unit, range, h.inRange.talkgroups, h.inRange.target, h.inRange.stateAge, h.inRange.origin⟩
  distinct := h.distinct
  inTable := h.inTable
  home := h.home
  entries := h.entries

theorem Record.Sound.unqueued {table : Vector (Option Neighbour) 12} {r : Record} (h : r.Sound table) : r.unqueued.Sound table :=
  Record.Sound.same (h.withTarget (o := none) nofun) rfl

theorem Record.Sound.fresh (table : Vector (Option Neighbour) 12) {unit seq : Nat} (hunit : 1 ≤ unit ∧ unit ≤ 16777214) (hseq : seq ≤ 15)
    (cls : RadioClass) (state : RecordState) (stamp : Parity) : (Record.fresh unit cls seq state stamp).Sound table where
  inRange := ⟨hunit, hseq, ⟨Nat.zero_le _, nofun⟩, nofun, Nat.zero_le _, nofun⟩
  distinct := List.nodup_nil
  inTable := nofun
  home := nofun
  entries := ⟨Nat.zero_le _, nofun⟩

/-- At most four talkgroups are requested, each a talkgroup's number (R47). -/
theorem requestedList_inRange (ids : List Nat) : (requestedList ids).length ≤ 4 ∧ ∀ tg ∈ requestedList ids, 1 ≤ tg ∧ tg ≤ 65534 := by
  have hsub := (dropRepeats_sublist ((ids.take Config.talkgroups).filter talkgroupInRange)).trans List.filter_sublist
  refine ⟨hsub.length_le.trans (List.length_take_le _ _), fun tg htg => ?_⟩
  exact of_decide_eq_true (List.mem_filter.mp (mem_dropRepeats.mp htg)).2

theorem talkgroups_inRange_sublist {l m : List Nat} (h : l.Sublist m) (range : m.length ≤ 4 ∧ ∀ tg ∈ m, 1 ≤ tg ∧ tg ≤ 65534) :
    l.length ≤ 4 ∧ ∀ tg ∈ l, 1 ≤ tg ∧ tg ≤ 65534 :=
  ⟨h.length_le.trans range.1, fun tg htg => range.2 tg (h.subset htg)⟩

/-! ## The port unit -/

theorem raiseIn_keys (key : AlarmKey) (detail : Nat) (l : List Alarm) : (raiseIn key detail l).map Alarm.key =
    if key ∈ l.map Alarm.key then l.map Alarm.key else l.map Alarm.key ++ [key] := by
  induction l with
  | nil => rfl
  | cons a rest ih =>
    unfold raiseIn
    split
    next h => simp [h]
    next h =>
      have hne : ¬ key = a.key := fun e => h e.symm
      rw [List.map_cons, ih]
      split <;> simp_all

theorem raiseIn_repeats {key : AlarmKey} {detail : Nat} {l : List Alarm} (h : ∀ a ∈ l, 1 ≤ a.repeats ∧ a.repeats ≤ 255) :
    ∀ a ∈ raiseIn key detail l, 1 ≤ a.repeats ∧ a.repeats ≤ 255 := by
  induction l with
  | nil =>
    intro a ha
    rw [raiseIn, List.mem_singleton] at ha
    subst ha
    exact ⟨le_refl 1, by dsimp only; omega⟩
  | cons b rest ih =>
    rw [List.forall_mem_cons] at h
    unfold raiseIn
    split
    · rw [List.forall_mem_cons]
      exact ⟨⟨by dsimp only; omega, by dsimp only; omega⟩, h.2⟩
    · rw [List.forall_mem_cons]
      exact ⟨h.1, ih h.2⟩

theorem PortUnit.Sound.withAlarms {p : PortUnit} (h : p.Sound) {m : MaintenancePort} (alarms : (m.alarms.map Alarm.key).Nodup)
    (repeats : ∀ a ∈ m.alarms, 1 ≤ a.repeats ∧ a.repeats ≤ 255) : ({ p with maintenance := m } : PortUnit).Sound where
  link := h.link
  channels := h.channels
  chatter := h.chatter
  alarms := alarms
  repeats := repeats
  allowance := h.allowance

theorem PortUnit.Sound.withLink {p : PortUnit} (h : p.Sound) {l : LinkPort} (link : l.queue.length ≤ Config.linkQueue) :
    ({ p with link := l } : PortUnit).Sound where
  link := link
  channels := h.channels
  chatter := h.chatter
  alarms := h.alarms
  repeats := h.repeats
  allowance := h.allowance

theorem PortUnit.Sound.withChannels {p : PortUnit} (h : p.Sound) {v : Vector ChannelPort 4}
    (channels : ∀ c : Fin 4, v[c].queue.length ≤ Config.channelQueue) (chatter : ∀ c : Fin 4, v[c].chatter ≤ 1023) :
    ({ p with channels := v } : PortUnit).Sound where
  link := h.link
  channels := channels
  chatter := chatter
  alarms := h.alarms
  repeats := h.repeats
  allowance := h.allowance

theorem PortUnit.Sound.raised {p : PortUnit} (h : p.Sound) (key : AlarmKey) (detail : Nat) :
    ({ p with maintenance := { p.maintenance with alarms := raiseIn key detail p.maintenance.alarms } } : PortUnit).Sound := by
  refine h.withAlarms ?_ (raiseIn_repeats h.repeats)
  rw [raiseIn_keys]
  split
  · exact h.alarms
  next hn =>
    refine List.nodup_append.mpr ⟨h.alarms, List.nodup_singleton key, fun k hk j hj => ?_⟩
    rw [List.mem_singleton.mp hj]
    rintro rfl
    exact hn hk

/-- One channel port changed, its queue and its count in range (R169, R171). -/
theorem PortUnit.Sound.setChannel {p : PortUnit} (h : p.Sound) (c : Fin 4) {q : ChannelPort} (queue : q.queue.length ≤ Config.channelQueue)
    (chatter : q.chatter ≤ 1023) : ({ p with channels := p.channels.set c q } : PortUnit).Sound := by
  refine h.withChannels (fun d => ?_) fun d => ?_
  · rw [getElem_set_fin]
    split
    · exact queue
    · exact h.channels d
  · rw [getElem_set_fin]
    split
    · exact chatter
    · exact h.chatter d

/-! ## Operations over the state -/

theorem BlocksSound.withPorts {s t : State} (h : BlocksSound s) (ports : t.ports.Sound) (same : t = { s with ports := t.ports }) :
    BlocksSound t := by
  rw [same] at *
  exact h.change ports h.records h.generations

theorem BlocksSound.withHandover {s : State} (h : BlocksSound s) {u : HandoverUnit}
    (generations : ∀ k : Fin 8, u.slots[k].generation ≤ 15) :
    BlocksSound { s with handover := u } := h.change h.ports h.records generations

theorem BlocksSound.withInterest {s : State} (h : BlocksSound s) (m : InterestMap) : BlocksSound { s with interest := m } :=
  h.change h.ports h.records h.generations

theorem BlocksSound.withClaims {s : State} (h : BlocksSound s) (l : List PendingClaim) : BlocksSound { s with claims := l } :=
  h.change h.ports h.records h.generations

theorem BlocksSound.withSweep {s : State} (h : BlocksSound s) (u : SweepUnit) : BlocksSound { s with sweep := u } :=
  h.change h.ports h.records h.generations

theorem BlocksSound.modifyRecord {s : State} (h : BlocksSound s) (i : Index) {f : Record → Record}
    (hf : ∀ r, s.record? i = some r → r.Sound s.neighbours → (f r).Sound s.neighbours) : BlocksSound (s.modifyRecord i f) := by
  refine h.change h.ports (fun j r hr => ?_) h.generations
  rw [State.record?_modifyRecord] at hr
  split at hr
  · obtain ⟨q, hq, rfl⟩ := Option.map_eq_some_iff.mp hr
    exact hf q hq (h.records i q hq)
  · exact h.records j r hr

theorem BlocksSound.mapRecords {s : State} (h : BlocksSound s) {f : Record → Record}
    (hf : ∀ r : Record, r.Sound s.neighbours → (f r).Sound s.neighbours) : BlocksSound (s.mapRecords f) := by
  refine h.change h.ports (fun j r hr => ?_) h.generations
  rw [State.record?_mapRecords] at hr
  obtain ⟨q, hq, rfl⟩ := Option.map_eq_some_iff.mp hr
  exact hf q (h.records j q hq)

/-- A change of one record that touches no number with a range. -/
theorem BlocksSound.markRecord {s : State} (h : BlocksSound s) (i : Index) {f : Record → Record} (hf : ∀ r, (f r).numbers = r.numbers) :
    BlocksSound (s.modifyRecord i f) := h.modifyRecord i fun r _ hr => hr.same (hf r)

theorem BlocksSound.selected {s : State} (h : BlocksSound s) : s.selected.inRange := by
  unfold State.selected ProfileStore.profile
  split
  · exact h.profiles.normal
  · exact h.profiles.incident

theorem BlocksSound.refusalCooldown {s : State} (h : BlocksSound s) : s.selected.refusalCooldown ≤ 63 := (h.selected 9).2

theorem BlocksSound.raiseAlarm {s : State} (h : BlocksSound s) (key : AlarmKey) (detail : Nat) : BlocksSound (s.raiseAlarm key detail) :=
  h.withPorts (h.ports.raised key detail) rfl

theorem BlocksSound.modifyChannel {s : State} (h : BlocksSound s) (c : Fin 4) {f : ChannelPort → ChannelPort}
    (queue : (f s.ports.channels[c]).queue.length ≤ Config.channelQueue) (chatter : (f s.ports.channels[c]).chatter ≤ 1023) :
    BlocksSound (s.modifyChannel c f) := h.withPorts (h.ports.setChannel c queue chatter) rfl

theorem BlocksSound.modifyLink {s : State} (h : BlocksSound s) {f : LinkPort → LinkPort}
    (link : (f s.ports.link).queue.length ≤ Config.linkQueue) : BlocksSound (s.modifyLink f) := h.withPorts (h.ports.withLink link) rfl

theorem BlocksSound.setOutbound {s : State} (h : BlocksSound s) (l : List Confirmation) (p : Port) : BlocksSound (s.setOutbound l p) := by
  cases p with
  | maintenance => exact h.withPorts (h.ports.withAlarms h.ports.alarms h.ports.repeats) rfl
  | link => exact h.modifyLink (f := fun p => { p with outbound := l }) h.ports.link
  | channel c => exact h.modifyChannel c (f := fun p => { p with outbound := l }) (h.ports.channels c) (h.ports.chatter c)

theorem BlocksSound.offered {s : State} (h : BlocksSound s) (n : LinkNotice) : BlocksSound (s.offered n) := by
  unfold State.offered
  split
  next room =>
    refine h.modifyLink ?_
    rw [List.length_append]
    exact room.2
  next => exact h

theorem BlocksSound.offerCancel {s : State} (h : BlocksSound s) (k : Fin 8) : BlocksSound (s.offerCancel k).1 := by
  unfold State.offerCancel
  split
  · exact h
  · dsimp only
    rw [State.offer_eq]
    exact h.offered _

theorem generation_freeSlot (u : HandoverUnit) (k j : Fin 8) : (u.freeSlot k).slots[j].generation = u.slots[j].generation := by
  simp only [HandoverUnit.freeSlot, getElem_set_fin]
  split
  next hj => rw [hj]
  next => rfl

theorem generation_setTransaction (u : HandoverUnit) (k j : Fin 8) (x : Transaction) :
    (u.setTransaction k x).slots[j].generation = u.slots[j].generation := by
  simp only [HandoverUnit.setTransaction, getElem_set_fin]
  split
  next hj => rw [hj]
  next => rfl

theorem BlocksSound.failTransaction {s : State} (h : BlocksSound s) (k : Fin 8) (cooldown : Bool) :
    BlocksSound (s.failTransaction k cooldown) := by
  unfold State.failTransaction
  split
  · exact h
  next x _ =>
    refine BlocksSound.withHandover (h.modifyRecord x.record fun r _ hr => hr.afterFailure x.target ?_) fun j => ?_
    · split
      · rintro n ⟨⟩
        exact h.refusalCooldown
      · exact nofun
    · rw [generation_freeSlot]
      exact h.generations j

theorem BlocksSound.failWithCancel {s : State} (h : BlocksSound s) (k : Fin 8) (cooldown : Bool) :
    BlocksSound (s.failWithCancel k cooldown).1 := (h.offerCancel k).failTransaction k cooldown

theorem BlocksSound.failAsked {s : State} (h : BlocksSound s) (test : Nat → Bool) (cooldown : Bool) :
    BlocksSound (s.failAsked test cooldown) :=
  State.failAsked_induction (P := BlocksSound) (fun _ k hu => hu.failTransaction k cooldown) s test h

theorem BlocksSound.setTransaction {s : State} (h : BlocksSound s) (k : Fin 8) (x : Transaction) :
    BlocksSound { s with handover := s.handover.setTransaction k x } :=
  h.withHandover fun j => by rw [generation_setTransaction]; exact h.generations j

theorem BlocksSound.moveAttempt {s : State} (h : BlocksSound s) (k : Fin 8) : BlocksSound (s.moveAttempt k).1 := by
  unfold State.moveAttempt
  split
  · exact h
  next x _ =>
    split
    · exact h
    next r _ =>
      split
      · exact h.failWithCancel k true
      next c _ =>
        split
        · exact h.failWithCancel k true
        · split
          · exact h.setTransaction k _
          · split
            · exact h.setTransaction k _
            next room =>
              have hpost : BlocksSound (s.postChannel c (.move r.unit x.target k s.handover.slots[k].generation)) := by
                refine h.modifyChannel c ?_ (h.ports.chatter c)
                rw [List.length_append]
                exact Nat.lt_of_not_le room
              exact hpost.setTransaction k _

theorem BlocksSound.withdrawTargets {s : State} (h : BlocksSound s) (test : Nat → Bool) : BlocksSound (s.withdrawTargets test) := by
  refine BlocksSound.withHandover (h.mapRecords fun r hr => ?_) h.generations
  split
  · exact hr.unqueued
  · exact hr

theorem BlocksSound.withdraw {s : State} (h : BlocksSound s) (i : Index) : BlocksSound (s.withdraw i) :=
  BlocksSound.withHandover (h.modifyRecord i fun _ _ hr => hr.unqueued) h.generations

theorem BlocksSound.dropClaim {s : State} (h : BlocksSound s) (i : Index) : BlocksSound (s.dropClaim i) :=
  BlocksSound.withClaims (h.markRecord i (f := fun r => { r with claimPending := false }) fun _ => rfl) _

theorem BlocksSound.oweClaim {s : State} (h : BlocksSound s) (i : Index) (fresh : Bool) : BlocksSound (s.oweClaim i fresh) := by
  have hmark := h.markRecord i (f := fun r => { r with claimPending := true }) fun _ => rfl
  unfold State.oweClaim
  dsimp only
  split
  · exact hmark.withClaims _
  · exact hmark.withClaims _

theorem BlocksSound.countTalkgroups {s : State} (h : BlocksSound s) (unit : Nat) (l : List Nat) :
    BlocksSound (s.countTalkgroups unit l).1 := by
  induction l generalizing s with
  | nil => exact h
  | cons tg rest ih =>
    unfold State.countTalkgroups
    split
    · exact ih (h.withInterest _)
    · exact ih (h.raiseAlarm _ _)

/-- The talkgroups that could be mapped are some of those to count (R124). -/
theorem State.countTalkgroups_sublist (s : State) (unit : Nat) (l : List Nat) : (s.countTalkgroups unit l).2.Sublist l := by
  induction l generalizing s with
  | nil => exact .slnil
  | cons tg rest ih =>
    unfold State.countTalkgroups
    split
    · exact (ih _).cons_cons tg
    · exact (ih _).cons tg

theorem BlocksSound.toTail {s : State} (h : BlocksSound s) (i : Index) : BlocksSound (s.toTail i) :=
  h.change h.ports h.records h.generations

theorem BlocksSound.markHeard {s : State} (h : BlocksSound s) (i : Index) : BlocksSound (s.markHeard i) :=
  BlocksSound.toTail (h.markRecord i (f := fun r => { r with heard := true }) fun _ => rfl) i

/-- The records of a state whose talkgroups are counted are as they were. -/
theorem State.record?_countTalkgroups (s : State) (unit : Nat) (l : List Nat) (i : Index) :
    (s.countTalkgroups unit l).1.record? i = s.record? i := by
  rw [State.countTalkgroups_eq]
  rfl

theorem State.neighbours_countTalkgroups (s : State) (unit : Nat) (l : List Nat) :
    (s.countTalkgroups unit l).1.neighbours = s.neighbours := by
  rw [State.countTalkgroups_eq]

theorem BlocksSound.reactivate {s : State} (h : BlocksSound s) (i : Index) {r : Record} (range : r.talkgroups.length ≤ 4 ∧
    ∀ tg ∈ r.talkgroups, 1 ≤ tg ∧ tg ≤ 65534) : BlocksSound (s.reactivate i r) := by
  unfold State.reactivate
  split
  · refine (h.countTalkgroups r.unit r.talkgroups).modifyRecord i fun q _ hq => ?_
    exact Record.Sound.same (hq.withTalkgroups (talkgroups_inRange_sublist (s.countTalkgroups_sublist r.unit r.talkgroups) range)) rfl
  · exact h

theorem BlocksSound.setTalkgroups {s : State} (h : BlocksSound s) (i : Index) (unit : Nat) (old : List Nat) {requested : List Nat}
    (range : requested.length ≤ 4 ∧ ∀ tg ∈ requested, 1 ≤ tg ∧ tg ≤ 65534) : BlocksSound (s.setTalkgroups i unit old requested) := by
  refine BlocksSound.modifyRecord (BlocksSound.countTalkgroups (h.withInterest _) unit _) i fun q _ hq => ?_
  exact hq.withTalkgroups (talkgroups_inRange_sublist List.filter_sublist range)

theorem BlocksSound.changeClass {s : State} (h : BlocksSound s) (i : Index) (cls : RadioClass) : BlocksSound (s.changeClass i cls) := by
  have hclass := h.markRecord i (f := fun r => { r with cls := cls }) fun _ => rfl
  unfold State.changeClass
  split
  · exact h
  · dsimp only
    split
    · exact hclass.withHandover h.generations
    · exact hclass

/-! ## Estimates -/

/-- A sample is at most 255 and a weight at most 16 (R30 to R35). -/
theorem BlocksSound.scored {s : State} (h : BlocksSound s) (a g : Nat) : (s.scored a g).sample ≤ 255 ∧ (s.scored a g).weight ≤ 16 := by
  obtain ⟨hscore, -, hcap⟩ := h.scoring.levels (levelIndex a)
  unfold State.scored ScoringUnit.score
  dsimp only
  omega

/-- An estimate stays within its range (R2, R38). -/
theorem smoothed_le {e x w : Nat} (he : e ≤ 4080) (hx : x ≤ 255) (hw : w ≤ 16) : smoothed e x w ≤ 4080 := by
  have h := (smoothed_between e x hw).2
  omega

theorem Scored.into_le {c : Scored} (sample : c.sample ≤ 255) (weight : c.weight ≤ 16) {o : Option Nat} (home : ∀ e ∈ o, e ≤ 4080) :
    (c.into o).1 ≤ 4080 := by
  cases o with
  | none =>
    show 16 * c.sample ≤ 4080
    omega
  | some e => exact smoothed_le (home e rfl) sample weight

theorem BlocksSound.withHome {s u : State} (h : BlocksSound s) (hu : BlocksSound u) (i : Index) (a g : Nat) :
    BlocksSound (u.applyUplink i (s.scored a g)) :=
  hu.modifyRecord i fun _ _ hr => hr.withHome (Scored.into_le (h.scored a g).1 (h.scored a g).2 hr.home)

theorem BlocksSound.written {s : State} (h : BlocksSound s) (c : Fin 4) (f : RegisterFields) (i : Index) (old : List Nat) (claim : Bool) :
    BlocksSound (s.written c f i old claim) := by
  have hclass := (h.changeClass i ((RadioClass.ofCode f.cls).getD .general)).markRecord i (f := fun r => { r with serving := some c })
    fun _ => rfl
  have hset := ((h.withHome hclass i f.attenuation f.grade).markHeard i).setTalkgroups i f.unit old (requestedList_inRange f.talkgroups)
  unfold State.written
  dsimp only
  split
  · exact hset.oweClaim i f.fresh
  · exact hset

/-! ## The changes of records and ports -/

theorem BlocksSound.detach {s : State} (h : BlocksSound s) (i : Index) : BlocksSound (s.detach i) := by
  cases hr : s.record? i with
  | none => simpa only [State.detach, hr] using h
  | some r =>
    have hrecord := State.record?_detach hr
    have hsame := State.detach_eq hr
    have hslots : ∀ k : Fin 8, (s.detach i).handover.slots[k].generation = s.handover.slots[k].generation := fun k => by
      rw [hsame]
      cases r.slot with
      | none => rfl
      | some l => exact generation_freeSlot _ l k
    refine h.change (by rw [hsame]; exact h.ports) (fun j q hq => ?_) (fun k => by rw [hslots]; exact h.generations k) (by rw [hsame])
      (by rw [hsame]) (by rw [hsame]) (by rw [hsame]) (by rw [hsame]; rfl)
    rw [hrecord] at hq
    split at hq
    · cases hq
    · exact h.records j q hq

theorem BlocksSound.release {s : State} (h : BlocksSound s) (i : Index) : BlocksSound (s.release i) := by
  have hd := h.detach i
  unfold State.release
  split
  · exact h
  · exact hd.change hd.ports hd.records hd.generations

theorem BlocksSound.occupy {s : State} (h : BlocksSound s) (t : VisitorTable) (reserve : t.reserve = s.visitors.reserve) (i : Index)
    {r : Record} (hr : r.Sound s.neighbours) (records : t.records = s.visitors.records) :
    BlocksSound { s with visitors := t.occupy i r } := by
  refine h.change h.ports (fun j q hq => ?_) h.generations rfl rfl rfl rfl reserve
  simp only [State.record?, VisitorTable.occupy, getElem_set_fin, records] at hq
  split at hq
  · cases hq
    exact hr
  · exact h.records j q hq

theorem BlocksSound.allocate {s : State} (h : BlocksSound s) {unit seq : Nat} {cls : RadioClass} {state : RecordState} {t : State}
    {i : Index} (hunit : 1 ≤ unit ∧ unit ≤ 16777214) (hseq : seq ≤ 15) (given : s.allocate unit cls seq state = some (t, i)) :
    BlocksSound t := by
  rcases State.allocate_of_vacant given with ⟨rest, -, rfl⟩ | ⟨r, hr, -, rfl⟩
  · exact h.occupy _ (by rfl) i (.fresh _ hunit hseq cls state s.sweep.parity) (by rfl)
  · exact (h.detach i).occupy _ (by rfl) i (.fresh _ hunit hseq cls state s.sweep.parity) (by rfl)

theorem BlocksSound.startSweep {s : State} (h : BlocksSound s) : BlocksSound s.startSweep := by
  have hports : ({ s.ports with channels := s.ports.channels.map (fun c => { c with chatter := 0 }) } : PortUnit).Sound :=
    h.ports.withChannels (fun c => by simpa using h.ports.channels c) (fun c => by simp)
  refine h.change (by rw [State.startSweep_channels]; exact hports) (fun j r hr => ?_) (by simpa using h.generations) (by simp) (by simp)
    (by simp) (by simp) (by simp)
  exact h.records j r (by simpa [State.record?] using hr)

theorem BlocksSound.sweepExpiry {s : State} (h : BlocksSound s) : BlocksSound s.sweepExpiry := by
  have hloaded := h.withSweep { s.sweep with timer := Timer.load s.selected.sweepPeriod }
  unfold State.sweepExpiry
  dsimp only
  split
  · exact hloaded.withSweep _
  · exact hloaded.startSweep

theorem BlocksSound.siteReset {s : State} (h : BlocksSound s) : BlocksSound s.siteReset := by
  have hports : s.siteReset.ports.Sound :=
    { link := Nat.zero_le _
      channels := fun c => by simp [State.siteReset]
      chatter := fun c => by simpa [State.siteReset] using h.ports.chatter c
      alarms := h.ports.alarms
      repeats := h.ports.repeats
      allowance := h.ports.allowance }
  refine h.change hports (fun i r hr => ?_) (fun k => ?_)
  · rw [State.record?_siteReset] at hr
    cases hr
  · rw [State.siteReset_slots]
    exact h.generations k

theorem BlocksSound.poll {s : State} (h : BlocksSound s) (p : Snapshot) (r : Record) : BlocksSound (s.poll p r) := by
  unfold State.poll
  split
  · exact h
  next c _ =>
    split
    next hpoll =>
      refine h.modifyChannel c ?_ (h.ports.chatter c)
      rw [List.length_append]
      exact hpoll.2.2.2
    next => exact h

theorem BlocksSound.lose {s : State} (h : BlocksSound s) (i : Index) (r : Record) : BlocksSound (s.lose i r) := by
  rw [State.lose_eq]
  have hlost := h.modifyRecord i (f := fun x => { x with state := .lost, stateAge := 0, queued := false, target := none })
    fun x _ hx => Record.Sound.same ((hx.withStateAge (Nat.zero_le 255)).withTarget (o := none) nofun) rfl
  exact (hlost.withHandover (u := s.handover.dequeue i) h.generations).withInterest _

theorem Record.Sound.agedEntries {table : Vector (Option Neighbour) 12} {r : Record} (h : r.Sound table) (life : Nat) :
    (r.agedEntries life).Sound table := by
  have haged : ∀ e d : NeighbourEntry, e.aged life = some d → d = { e with age := min 255 (e.age + 1), cooldown := e.cooldown - 1 } :=
    fun e d hd => by
      unfold NeighbourEntry.aged at hd
      dsimp only at hd
      split at hd
      · cases hd
      · exact (Option.some.inj hd).symm
  refine h.withEntries ?_ fun d hd => ?_
  · induction r.neighbours with
    | nil => exact .slnil
    | cons e rest ih =>
      cases he : e.aged life with
      | none =>
        rw [List.filterMap_cons_none (f := fun e : NeighbourEntry => e.aged life) he]
        exact ih.cons _
      | some d =>
        rw [List.filterMap_cons_some (f := fun e : NeighbourEntry => e.aged life) he, List.map_cons, List.map_cons, haged e d he]
        exact ih.cons_cons _
  · obtain ⟨e, he, hsome⟩ := List.mem_filterMap.mp hd
    obtain ⟨hestimate, hage, hbetter, hcooldown⟩ := h.entries.2 e he
    rw [haged e d hsome]
    exact ⟨hestimate, Nat.min_le_left _ _, hbetter, by dsimp only; omega⟩

/-- The winner of a decision is a site of the neighbour table, so its number is in range (R83, R133). -/
theorem BlocksSound.winner_inRange {s : State} (h : BlocksSound s) {p : Snapshot} {i : Index} {r : Record} (hr : s.record? i = some r)
    {site : Nat} (hw : s.winner p r = some site) : 1 ≤ site ∧ site ≤ 1023 := by
  obtain ⟨v, hbest, -⟩ := State.winner_eq_some.mp hw
  obtain ⟨e, he, rfl, -⟩ := hbest.attained
  obtain ⟨k, n, hn, hsite⟩ := (h.records i r hr).inTable e he
  obtain ⟨hrange, -⟩ := h.neighbours.inRange k n hn
  rw [← hsite]
  exact of_decide_eq_true hrange

theorem Record.Sound.recounted {table : Vector (Option Neighbour) 12} {r : Record} (h : r.Sound table) (winner : Option Nat) :
    (r.recounted winner).Sound table := by
  refine h.mapEntries (fun _ => rfl) fun e he => ?_
  obtain ⟨hestimate, hage, -, hcooldown⟩ := he
  refine ⟨hestimate, hage, ?_, hcooldown⟩
  unfold NeighbourEntry.counted
  dsimp only
  split
  · exact Nat.min_le_left _ _
  · exact Nat.zero_le _

theorem BlocksSound.reviewed {s : State} (h : BlocksSound s) (p : Snapshot) {i : Index} {r : Record} (hr : s.record? i = some r) :
    BlocksSound (s.reviewed p i r) := by
  have hcounted := (h.records i r hr).recounted (s.winner p r)
  unfold State.reviewed
  split
  · refine (h.withdraw i).modifyRecord i fun x hx _ => ?_
    rw [State.record?_withdraw, if_pos rfl, hr] at hx
    cases hx
    exact hcounted.unqueued.same rfl
  · refine h.modifyRecord i fun x hx _ => ?_
    rw [hr] at hx
    cases hx
    exact hcounted

theorem BlocksSound.decideHandover {s : State} (h : BlocksSound s) (p : Snapshot) {i : Index} {r : Record} (hr : s.record? i = some r) :
    BlocksSound (s.decideHandover p i r) := by
  have hreviewed := h.reviewed p hr
  cases hw : s.winner p r with
  | none => rw [State.decideHandover_of_winner_none hw]; exact hreviewed
  | some site =>
    rw [State.decideHandover_of_winner_some hw]
    split
    · refine BlocksSound.withHandover (hreviewed.modifyRecord i fun x _ hx => ?_) hreviewed.generations
      exact Record.Sound.same (hx.withTarget (o := some site) (by rintro _ ⟨⟩; exact h.winner_inRange hr hw)) rfl
    · exact hreviewed

/-! ## A routed DOWNLINK sample -/

theorem State.neighbourSlot?_eq_some {s : State} {site : Nat} {k : Fin 12} (h : s.neighbourSlot? site = some k) :
    ∃ n, s.neighbours[k] = some n ∧ n.site = site := by
  unfold State.neighbourSlot? at h
  have htest := List.find?_some h
  obtain ⟨n, hn, hsite⟩ := (Option.any_eq_true _ _).mp htest
  exact ⟨n, hn, beq_iff_eq.mp hsite⟩

theorem State.neighbourSlot?_eq_none {s : State} {site : Nat} :
    s.neighbourSlot? site = none ↔ ∀ (k : Fin 12) (n : Neighbour), s.neighbours[k] = some n → n.site ≠ site := by
  unfold State.neighbourSlot?
  rw [List.find?_eq_none]
  constructor
  · intro h k n hn hsite
    exact h k (List.mem_finRange k) (by rw [hn, Option.any_some, hsite, beq_self_eq_true])
  · intro h k _ hany
    obtain ⟨n, hn, hsite⟩ := (Option.any_eq_true _ _).mp hany
    exact h k n hn (beq_iff_eq.mp hsite)

theorem State.neighbour?_isSome {s : State} {site : Nat} (h : (s.neighbour? site).isSome = true) :
    ∃ (k : Fin 12) (n : Neighbour), s.neighbours[k] = some n ∧ n.site = site := by
  obtain ⟨n, hn⟩ := Option.isSome_iff_exists.mp h
  obtain ⟨k, hk, -⟩ := Option.bind_eq_some_iff.mp hn
  exact ⟨k, State.neighbourSlot?_eq_some hk⟩

theorem weakest_mem {l : List NeighbourEntry} {w : NeighbourEntry} (h : weakest l = some w) : w ∈ l := by
  induction l generalizing w with
  | nil => cases h
  | cons e rest ih =>
    unfold weakest at h
    split at h
    · cases h
      exact List.mem_cons_self
    next f hf =>
      split at h
      · cases h
        exact List.mem_cons_self
      · cases h
        exact List.mem_cons_of_mem e (ih hf)

/-- One of distinct numbers replaced by a new one, the numbers are distinct still. -/
theorem nodup_map_replace {α : Type} {l : List α} {f : α → Nat} (hl : (l.map f).Nodup) {old new : Nat} (hnew : new ∉ l.map f) :
    (l.map (fun x => if f x = old then new else f x)).Nodup := by
  refine (List.nodup_map_iff_inj_on hl.of_map).mpr fun x hx y hy hxy => ?_
  have hinj := List.inj_on_of_nodup_map hl hx hy
  have hne : ∀ z ∈ l, f z ≠ new := fun z hz he => hnew (he ▸ List.mem_map_of_mem hz)
  have hx' := hne x hx
  have hy' := hne y hy
  refine hinj ?_
  split at hxy <;> split at hxy <;> omega

theorem Record.Sound.routed {table : Vector (Option Neighbour) 12} {r : Record} (h : r.Sound table) {site : Nat} {c : Scored} {late : Bool}
    {t : Routed} (known : ∃ (k : Fin 12) (n : Neighbour), table[k] = some n ∧ n.site = site) (sample : c.sample ≤ 255)
    (weight : c.weight ≤ 16) (routed : routeDownlink r.neighbours site c late = some t) :
    ({ r with neighbours := t.entries } : Record).Sound table := by
  have hfresh : (NeighbourEntry.fresh site c.sample late).inRange :=
    ⟨by show 16 * c.sample ≤ 4080; omega, Nat.zero_le _, Nat.zero_le _, Nat.zero_le _⟩
  unfold routeDownlink at routed
  split at routed
  next e hfind =>
    have he : e ∈ r.neighbours := List.mem_of_find?_eq_some hfind
    cases routed
    refine h.mapEntries (fun d => ?_) fun d hd => ?_
    · split
      next => rfl
      next => rfl
    · split
      · obtain ⟨-, -, hbetter, hcooldown⟩ := hd
        exact ⟨smoothed_le (h.entries.2 e he).1 sample weight, Nat.zero_le _, hbetter, hcooldown⟩
      · exact hd
  next hfind =>
    have hnew : site ∉ r.neighbours.map NeighbourEntry.site := by
      intro hmem
      obtain ⟨d, hd, hsite⟩ := List.mem_map.mp hmem
      exact List.find?_eq_none.mp hfind d hd (beq_iff_eq.mpr hsite)
    split at routed
    next hroom =>
      cases routed
      refine ⟨⟨h.inRange.unit, h.inRange.seq, h.inRange.talkgroups, h.inRange.target, h.inRange.stateAge, h.inRange.origin⟩, ?_,
        fun e he => ?_, h.home, ?_, fun e he => ?_⟩
      · rw [List.map_append, List.nodup_append]
        refine ⟨h.distinct, List.nodup_singleton _, fun a ha b hb => ?_⟩
        rw [List.mem_singleton.mp hb]
        rintro rfl
        exact hnew ha
      · rcases List.mem_append.mp he with he | he
        · exact h.inTable e he
        · rw [List.mem_singleton.mp he]
          exact known
      · rw [List.length_append]
        exact hroom
      · rcases List.mem_append.mp he with he | he
        · exact h.entries.2 e he
        · rw [List.mem_singleton.mp he]
          exact hfresh
    next =>
      split at routed
      next => cases routed
      next w _ =>
        split at routed
        next =>
          cases routed
          refine ⟨⟨h.inRange.unit, h.inRange.seq, h.inRange.talkgroups, h.inRange.target, h.inRange.stateAge, h.inRange.origin⟩, ?_,
            fun e he => ?_, h.home, ?_, fun e he => ?_⟩
          · have hsites : (r.neighbours.map (fun f => if f.site = w.site then NeighbourEntry.fresh site c.sample late else f)).map
                NeighbourEntry.site = r.neighbours.map (fun f => if f.site = w.site then site else f.site) := by
              rw [List.map_map]
              refine List.map_congr_left fun f _ => ?_
              simp only [Function.comp_apply]
              split <;> rfl
            rw [hsites]
            exact nodup_map_replace h.distinct hnew
          · obtain ⟨d, hd, rfl⟩ := List.mem_map.mp he
            split
            · exact known
            · exact h.inTable d hd
          · rw [List.length_map]
            exact h.entries.1
          · obtain ⟨d, hd, rfl⟩ := List.mem_map.mp he
            split
            · exact hfresh
            · exact h.entries.2 d hd
        next => cases routed

/-! ## The changes of the configuration -/

/-- What a field of a profile is after one field was written (R150). -/
theorem Profile.field_setField (p : Profile) (v : Nat) (code c : Fin 15) :
    (p.setField v (code.val + 1)).field (c.val + 1) = if c = code then v else p.field (c.val + 1) := by
  fin_cases code <;> fin_cases c <;> rfl

theorem clamp_between {lo hi : Nat} (h : lo ≤ hi) (n : Nat) : lo ≤ clamp lo hi n ∧ clamp lo hi n ≤ hi := by
  unfold clamp
  omega

theorem storedField_inRange (code : Fin 15) (value : Nat) : (fieldRange (code.val + 1)).1 ≤ storedField (code.val + 1) value ∧
    storedField (code.val + 1) value ≤ (fieldRange (code.val + 1)).2 :=
  clamp_between (by revert code; decide) value

theorem Profile.inRange_setField {p : Profile} (h : p.inRange) (code : Fin 15) (value : Nat) :
    (p.setField (storedField (code.val + 1) value) (code.val + 1)).inRange := by
  intro c
  rw [Profile.field_setField]
  split
  next hc => rw [hc]; exact storedField_inRange code value
  next => exact h c

/-- A record whose entries' sites are in another neighbour table (R42). -/
theorem Record.Sound.retable {old new : Vector (Option Neighbour) 12} {r : Record} (h : r.Sound old)
    (inTable : ∀ e ∈ r.neighbours, ∃ (k : Fin 12) (n : Neighbour), new[k] = some n ∧ n.site = e.site) : r.Sound new :=
  ⟨h.inRange, h.distinct, inTable, h.home, h.entries⟩

/-- One slot of the neighbour table written, with no record holding an entry for a site that leaves it (R133, R137). -/
theorem BlocksSound.setSlot {s : State} (h : BlocksSound s) {k : Fin 12} {o : Option Neighbour}
    (range : ∀ n ∈ o, siteInRange n.site = true ∧ -32 ≤ n.bias ∧ n.bias ≤ 31 ∧ n.site ≠ s.protection.site)
    (new : ∀ n ∈ o, ∀ (j : Fin 12) (m : Neighbour), j ≠ k → s.neighbours[j] = some m → m.site ≠ n.site)
    (entries : ∀ (i : Index) (r : Record), s.record? i = some r → ∀ e ∈ r.neighbours, ∀ n, s.neighbours[k] = some n → n.site = e.site →
      ∃ m, o = some m ∧ m.site = e.site) : BlocksSound (s.setNeighbourSlot k o) := by
  have hslot : ∀ j : Fin 12, (s.setNeighbourSlot k o).neighbours[j] = if j = k then o else s.neighbours[j] :=
    fun j => getElem_set_fin s.neighbours k j o
  refine ⟨h.ports, h.scoring, ⟨h.profiles.normal, h.profiles.incident, h.profiles.selection⟩,
    ⟨fun j n hn => ?_, fun i j m n hm hn hmn => ?_⟩,
    fun i r hr => ?_, h.generations, h.reserve, h.site⟩
  · rw [hslot] at hn
    split at hn
    · exact range n hn
    · exact h.neighbours.inRange j n hn
  · rw [hslot] at hm hn
    by_cases hi : i = k <;> by_cases hj : j = k <;> simp only [hi, hj, if_true, if_false] at hm hn ⊢
    · exact absurd hmn.symm (new m hm j n hj hn)
    · exact absurd hmn (new n hn i m hi hm)
    · exact h.neighbours.distinct i j m n hm hn hmn
  · refine (h.records i r hr).retable fun e he => ?_
    obtain ⟨j, n, hn, hsite⟩ := (h.records i r hr).inTable e he
    by_cases hj : j = k
    · subst hj
      obtain ⟨m, hm, hmsite⟩ := entries i r hr e he n hn hsite
      exact ⟨j, m, by rw [hslot, if_pos rfl, hm], hmsite⟩
    · exact ⟨j, n, by rw [hslot, if_neg hj, hn], hsite⟩

theorem clampBias_between (b : Int) : -32 ≤ clampBias b ∧ clampBias b ≤ 31 := by
  unfold clampBias
  omega

theorem neighbourAfter_eq_some {old : Option Neighbour} {site : Nat} {bias : Int} {n : Neighbour}
    (h : neighbourAfter old site bias = some n) : n.site = site ∧ n.bias = clampBias bias ∧ site ≠ 0 := by
  unfold neighbourAfter at h
  split at h
  · cases h
  next hsite =>
    split at h
    · cases h
      exact ⟨rfl, rfl, hsite⟩
    · split at h
      next hsame =>
        cases h
        exact ⟨hsame, rfl, hsite⟩
      next =>
        cases h
        exact ⟨rfl, rfl, hsite⟩

theorem removedSite_eq_none {old : Option Neighbour} {site : Nat} {n : Neighbour} (h : removedSite old site = none) (hn : old = some n) :
    n.site = site := by
  subst hn
  unfold removedSite at h
  split at h
  · contradiction
  next m hm =>
    cases hm
    split at h
    · assumption
    · cases h

theorem removedSite_eq_some {old : Option Neighbour} {site gone : Nat} (h : removedSite old site = some gone) :
    ∃ n, old = some n ∧ n.site = gone := by
  unfold removedSite at h
  split at h
  · cases h
  next m =>
    split at h
    · cases h
    · cases h
      exact ⟨m, rfl, rfl⟩

/-- What passes the RANGE test of SET NEIGHBOUR (R135). -/
theorem BlocksSound.settable {s : State} (h : BlocksSound s) {k : Fin 12} {site : Nat} (range : s.neighbourInRange k.val site = true)
    (hsite : site ≠ 0) : siteInRange site = true ∧ site ≠ s.protection.site
      ∧ ∀ (j : Fin 12) (m : Neighbour), j ≠ k → s.neighbours[j] = some m → m.site ≠ site := by
  simp only [State.neighbourInRange, Bool.and_eq_true, Bool.or_eq_true, decide_eq_true_eq, beq_iff_eq, bne_iff_ne, hsite, false_or]
    at range
  obtain ⟨⟨-, hmax⟩, hown, hslot⟩ := range
  refine ⟨decide_eq_true ⟨Nat.pos_of_ne_zero hsite, hmax⟩, hown, fun j m hj hm hmsite => ?_⟩
  split at hslot
  next hnone => exact State.neighbourSlot?_eq_none.mp hnone j m hm hmsite
  next l hl =>
    obtain ⟨n, hn, hnsite⟩ := State.neighbourSlot?_eq_some hl
    have hlk : l = k := Fin.ext (by simpa using hslot)
    exact hj ((h.neighbours.distinct j l m n hm hn (hmsite.trans hnsite.symm)).trans hlk)

theorem BlocksSound.setNeighbour {s u : State} (h : BlocksSound s) (hu : BlocksSound u) (neighbours : u.neighbours = s.neighbours)
    (protection : u.protection = s.protection) {k : Fin 12} {site : Nat} (bias : Int) (range : s.neighbourInRange k.val site = true)
    (entries : ∀ (i : Index) (r : Record), u.record? i = some r → ∀ e ∈ r.neighbours, ∀ n, s.neighbours[k] = some n → n.site = e.site →
      n.site = site) : BlocksSound (u.setNeighbourSlot k (neighbourAfter s.neighbours[k] site bias)) := by
  refine hu.setSlot (fun n hn => ?_) (fun n hn j m hj hm => ?_) fun i r hr e he n hn hsite => ?_
  · obtain ⟨rfl, hbias, hzero⟩ := neighbourAfter_eq_some hn
    obtain ⟨hrange, hown, -⟩ := h.settable range hzero
    rw [protection, hbias]
    exact ⟨hrange, (clampBias_between bias).1, (clampBias_between bias).2, hown⟩
  · obtain ⟨rfl, -, hzero⟩ := neighbourAfter_eq_some hn
    obtain ⟨-, -, hothers⟩ := h.settable range hzero
    exact hothers j m hj (neighbours ▸ hm)
  · rw [neighbours] at hn
    have hsame := entries i r hr e he n hn hsite
    have hpos := of_decide_eq_true (h.neighbours.inRange k n hn).1
    have hzero : ¬ site = 0 := by omega
    refine ⟨{ n with bias := clampBias bias }, ?_, hsite⟩
    simp [neighbourAfter, hn, hzero, hsame]

/-- No record holds an entry for a site that is removed (R137). -/
theorem State.removeSite_entries (s : State) (site : Nat) (i : Index) (r : Record) (hr : (s.removeSite site).record? i = some r) :
    ∀ e ∈ r.neighbours, e.site ≠ site := by
  have hnone : ∀ (u : State) (k : Fin 8), (∀ (i : Index) (r : Record), u.record? i = some r → ∀ e ∈ r.neighbours, e.site ≠ site) →
      ∀ (i : Index) (r : Record), (u.failTransaction k false).record? i = some r → ∀ e ∈ r.neighbours, e.site ≠ site :=
    fun u k h i r hr => by
      cases hx : u.handover.slots[k].transaction with
      | none => rw [State.failTransaction_free hx] at hr; exact h i r hr
      | some x =>
        rw [State.failTransaction_eq hx, State.record?_failed] at hr
        split at hr
        · obtain ⟨q, hq, rfl⟩ := Option.map_eq_some_iff.mp hr
          intro e he
          obtain ⟨d, hd, rfl⟩ := List.mem_map.mp he
          exact h x.record q hq d hd
        · exact h i r hr
  unfold State.removeSite at hr
  refine State.failAsked_induction (P := fun u => ∀ (i : Index) (r : Record), u.record? i = some r → ∀ e ∈ r.neighbours, e.site ≠ site)
    hnone _ _ (fun i r hr => ?_) i r hr
  rw [State.record?_withdrawTargets, State.record?_mapRecords, Option.map_map] at hr
  obtain ⟨q, -, rfl⟩ := Option.map_eq_some_iff.mp hr
  intro e he
  simp only [Function.comp_apply] at he
  split at he <;> simpa using (List.mem_filter.mp he).2

theorem State.failTransaction_frame (s : State) (k : Fin 8) (cooldown : Bool) :
    s.failTransaction k cooldown = { s with
      visitors := (s.failTransaction k cooldown).visitors, handover := (s.failTransaction k cooldown).handover } := by
  unfold State.failTransaction
  split <;> rfl

theorem State.failAsked_frame (s : State) (test : Nat → Bool) (cooldown : Bool) :
    s.failAsked test cooldown = { s with
      visitors := (s.failAsked test cooldown).visitors, handover := (s.failAsked test cooldown).handover } := by
  refine State.failAsked_induction (P := fun u => u = { s with visitors := u.visitors, handover := u.handover })
    (fun u k hu => ?_) s test rfl
  rw [State.failTransaction_frame, hu]

@[simp] theorem State.failAsked_neighbours (s : State) (test : Nat → Bool) (cooldown : Bool) :
    (s.failAsked test cooldown).neighbours = s.neighbours := by rw [State.failAsked_frame]

@[simp] theorem State.failAsked_protection (s : State) (test : Nat → Bool) (cooldown : Bool) :
    (s.failAsked test cooldown).protection = s.protection := by rw [State.failAsked_frame]

theorem State.removeSite_neighbours (s : State) (site : Nat) : (s.removeSite site).neighbours = s.neighbours :=
  State.failAsked_neighbours _ _ _

theorem State.removeSite_protection (s : State) (site : Nat) : (s.removeSite site).protection = s.protection :=
  State.failAsked_protection _ _ _

theorem BlocksSound.removeSite {s : State} (h : BlocksSound s) (site : Nat) : BlocksSound (s.removeSite site) := by
  have hentries := h.mapRecords (f := fun r => { r with neighbours := r.neighbours.filter (fun e => e.site != site) }) fun r hr =>
    hr.withEntries (List.filter_sublist.map _) fun e he => hr.entries.2 e (List.mem_filter.mp he).1
  exact (hentries.withdrawTargets _).failAsked _ _

theorem BlocksSound.neighbourDown {s : State} (h : BlocksSound s) (site : Nat) : BlocksSound (s.neighbourDown site) := by
  have hcleared := (h.failAsked (fun t => t == site) true).withdrawTargets (fun t => t == site)
  unfold State.neighbourDown
  exact hcleared.raiseAlarm _ _

theorem BlocksSound.allDown {s : State} (h : BlocksSound s) : BlocksSound s.allDown := by
  have hslot : ∀ k : Fin 12, s.allDown.neighbours[k] = s.neighbours[k].map (fun n => { n with link := .down }) := fun k => by
    simp [State.allDown]
  refine ⟨h.ports, h.scoring, ⟨h.profiles.normal, h.profiles.incident, h.profiles.selection⟩,
    ⟨fun k n hn => ?_, fun j k m n hm hn hmn => ?_⟩,
    fun i r hr => ?_, h.generations, h.reserve, h.site⟩
  · rw [hslot] at hn
    obtain ⟨q, hq, rfl⟩ := Option.map_eq_some_iff.mp hn
    exact h.neighbours.inRange k q hq
  · rw [hslot] at hm hn
    obtain ⟨p, hp, rfl⟩ := Option.map_eq_some_iff.mp hm
    obtain ⟨q, hq, rfl⟩ := Option.map_eq_some_iff.mp hn
    exact h.neighbours.distinct j k p q hp hq hmn
  · refine (h.records i r hr).retable fun e he => ?_
    obtain ⟨k, n, hn, hsite⟩ := (h.records i r hr).inTable e he
    exact ⟨k, { n with link := .down }, by rw [hslot, hn]; rfl, hsite⟩

theorem BlocksSound.linkShut {s : State} (h : BlocksSound s) : BlocksSound s.linkShut :=
  (h.modifyLink (f := fun p => { p with isOpen := false, queue := [], refreshOwed := false }) (Nat.zero_le _)).withInterest _

theorem BlocksSound.closeLink {s : State} (h : BlocksSound s) (cause : Kind) : BlocksSound (s.closeLink cause) := by
  have hislanded : BlocksSound s.islanded := (h.allDown.failAsked _ _).withdrawTargets _
  rw [State.closeLink_eq]
  exact hislanded.linkShut.raiseAlarm _ _

/-! ## The changes that a step is made of, and the step -/

theorem RegisterFields.inRange_unit {f : RegisterFields} (h : RegisterFields.inRange f = true) :
    (1 ≤ f.unit ∧ f.unit ≤ 16777214) ∧ f.seq ≤ 15 := by
  simp only [RegisterFields.inRange, Bool.and_eq_true, unitInRange, fitsSequence, decide_eq_true_eq] at h
  exact ⟨h.1.1, h.2⟩

theorem AskFields.inRange_unit {f : AskFields} {own : Nat} (h : AskFields.inRange f own = true) :
    (1 ≤ f.unit ∧ f.unit ≤ 16777214) ∧ (1 ≤ f.origin ∧ f.origin ≤ 1023) ∧ f.seq ≤ 15 := by
  simp only [AskFields.inRange, Bool.and_eq_true, unitInRange, siteInRange, fitsSequence, decide_eq_true_eq] at h
  exact ⟨h.1.1.1.1, h.1.1.1.2, h.2⟩

theorem Record.Sound.asked {table : Vector (Option Neighbour) 12} {r : Record} (h : r.Sound table) {f : AskFields} {own : Nat}
    (range : AskFields.inRange f own = true) : (r.asked f).Sound table := by
  obtain ⟨-, horigin, hseq⟩ := AskFields.inRange_unit range
  refine Record.Sound.same ((((h.withSeq hseq).withTalkgroups (requestedList_inRange f.talkgroups)).withOrigin
    (o := some f.origin) ?_).withStateAge
    (Nat.zero_le 255)) rfl
  rintro _ ⟨⟩
  exact horigin

theorem Record.Sound.readmitted {table : Vector (Option Neighbour) 12} {r : Record} (h : r.Sound table) {seq : Nat} (hseq : seq ≤ 15) :
    (r.readmitted seq).Sound table := by
  unfold Record.readmitted
  split
  · exact Record.Sound.same ((h.withSeq hseq).withOrigin (o := none) nofun) rfl
  · exact h.withSeq hseq
  · exact h.withSeq hseq
  · exact Record.Sound.same (h.withSeq hseq) rfl

theorem limitStored_between {lo hi old : Nat} (h : lo ≤ hi) (hold : lo ≤ old ∧ old ≤ hi) (o : Option Nat) :
    lo ≤ limitStored lo hi old o ∧ limitStored lo hi old o ≤ hi := by
  cases o with
  | none => exact hold
  | some v => exact clamp_between h v

theorem writeRun_all {α : Type} {n : Nat} {v : Vector α n} {P : α → Prop} (hv : ∀ i : Fin n, P v[i]) {start : Nat} {run : List α}
    (hrun : ∀ a ∈ run, P a) (i : Fin n) : P (writeRun v start run)[i] := by
  simp only [writeRun, Fin.getElem_fin, Vector.getElem_ofFn]
  split
  · cases ha : run[i.val - start]? with
    | none => exact hv i
    | some a => exact hrun a (List.mem_of_getElem? ha)
  · exact hv i

theorem BlocksSound.withScoring {s : State} (h : BlocksSound s) {u : ScoringUnit} (hu : u.Sound) : BlocksSound { s with scoring := u } :=
  ⟨h.ports, hu, ⟨h.profiles.normal, h.profiles.incident, h.profiles.selection⟩, ⟨h.neighbours.inRange, h.neighbours.distinct⟩, h.records,
    h.generations, h.reserve, h.site⟩

theorem BlocksSound.writeLevels {s : State} (h : BlocksSound s) (start : Nat) (entries : List (Nat × Nat)) : BlocksSound
    { s with scoring := { s.scoring with levels := writeRun s.scoring.levels start (entries.map levelStored) } } := by
  have hstored : ∀ e ∈ entries.map levelStored, e.score ≤ 255 ∧ 1 ≤ e.cap ∧ e.cap ≤ 16 := fun e he => by
    obtain ⟨p, -, rfl⟩ := List.mem_map.mp he
    exact ⟨(clamp_between (Nat.zero_le 255) p.1).2, clamp_between (by decide) p.2⟩
  have hlevels := writeRun_all h.scoring.levels (start := start) hstored
  exact h.withScoring ⟨hlevels, h.scoring.penalties⟩

theorem BlocksSound.writePenalties {s : State} (h : BlocksSound s) (start : Nat) (entries : List Nat) : BlocksSound
    { s with scoring := { s.scoring with penalties := writeRun s.scoring.penalties start (entries.map (clamp 0 255)) } } := by
  have hstored : ∀ e ∈ entries.map (clamp 0 255), e ≤ 255 := fun e he => by
    obtain ⟨p, -, rfl⟩ := List.mem_map.mp he
    exact (clamp_between (Nat.zero_le 255) p).2
  have hpenalties := writeRun_all h.scoring.penalties (start := start) hstored
  exact h.withScoring ⟨h.scoring.levels, hpenalties⟩

theorem BlocksSound.withProfiles {s : State} (h : BlocksSound s) {p : ProfileStore} (hp : ProfilesSound { s with profiles := p }) :
    BlocksSound { s with profiles := p } :=
  ⟨h.ports, h.scoring, hp, ⟨h.neighbours.inRange, h.neighbours.distinct⟩, h.records, h.generations, h.reserve, h.site⟩

theorem BlocksSound.profileField {s : State} (h : BlocksSound s) (name : ProfileName) {code : Nat} (value : Nat)
    (range : 1 ≤ code ∧ code ≤ 15) : BlocksSound
      { s with profiles := s.profiles.setProfile ((s.profiles.profile name).setField (storedField code value) code) name } := by
  obtain ⟨c, rfl⟩ : ∃ c : Fin 15, c.val + 1 = code := ⟨⟨code - 1, by omega⟩, by simp; omega⟩
  refine h.withProfiles ?_
  cases name with
  | normal => exact ⟨Profile.inRange_setField h.profiles.normal c value, h.profiles.incident, h.profiles.selection⟩
  | incident => exact ⟨h.profiles.normal, Profile.inRange_setField h.profiles.incident c value, h.profiles.selection⟩

theorem BlocksSound.setSite {s : State} (h : BlocksSound s) {n : Nat} (range : s.siteSettable n = true) :
    BlocksSound { s with protection := { s.protection with site := n } } := by
  simp only [State.siteSettable, Bool.and_eq_true, Option.isNone_iff_eq_none] at range
  obtain ⟨hsite, hslot⟩ := range
  refine ⟨h.ports, h.scoring, ⟨h.profiles.normal, h.profiles.incident, h.profiles.selection⟩,
    ⟨fun k m hm => ?_, h.neighbours.distinct⟩, h.records, h.generations, h.reserve, (of_decide_eq_true hsite).2⟩
  obtain ⟨hrange, hlow, hhigh, -⟩ := h.neighbours.inRange k m hm
  exact ⟨hrange, hlow, hhigh, State.neighbourSlot?_eq_none.mp hslot k m hm⟩

theorem BlocksSound.withLocks {s : State} (h : BlocksSound s) {p : Protection} (site : p.site = s.protection.site) :
    BlocksSound { s with protection := p } :=
  ⟨h.ports, h.scoring, ⟨h.profiles.normal, h.profiles.incident, h.profiles.selection⟩,
    ⟨site ▸ h.neighbours.inRange, h.neighbours.distinct⟩, h.records, h.generations, h.reserve, site ▸ h.site⟩

theorem BlocksSound.limits {s : State} (h : BlocksSound s) (f : LimitsFields) : BlocksSound { s with
    visitors := { s.visitors with reserve := limitStored 0 128 s.visitors.reserve f.reserve }
    ports := { s.ports with
      allowance := limitStored 16 1023 s.ports.allowance f.allowance
      threshold := (f.threshold.bind Threshold.ofCode).getD s.ports.threshold } } :=
  ⟨⟨h.ports.link, h.ports.channels, h.ports.chatter, h.ports.alarms, h.ports.repeats, limitStored_between (by decide) h.ports.allowance _⟩,
    h.scoring, ⟨h.profiles.normal, h.profiles.incident, h.profiles.selection⟩, ⟨h.neighbours.inRange, h.neighbours.distinct⟩, h.records,
    h.generations, (limitStored_between (Nat.zero_le 128) ⟨Nat.zero_le _, h.reserve⟩ _).2, h.site⟩

theorem length_flushOldest (n : Nat) (l : List QueuedNotice) : (flushOldest n l).length = l.length := by
  cases l <;> rfl

/-- Every change keeps every number within its range. -/
theorem BlocksSound.deed {s t : State} (hd : Deed s t) (h : BlocksSound s) : BlocksSound t := by
  cases hd with
  | chatter c below => exact h.modifyChannel c (h.ports.channels c) (below.trans_le h.ports.allowance.2)
  | alarm key detail => exact h.raiseAlarm key detail
  | channel c f less =>
    obtain ⟨hqueue, hchatter⟩ := less s.ports.channels[c]
    exact h.modifyChannel c (hqueue.length_le.trans (h.ports.channels c)) (hchatter.trans (h.ports.chatter c))
  | dropAlarms n =>
    have hsub : (s.ports.maintenance.alarms.drop n).Sublist s.ports.maintenance.alarms := List.drop_sublist n _
    exact h.withPorts (h.ports.withAlarms (h.ports.alarms.sublist (hsub.map _)) fun a ha => h.ports.repeats a (hsub.subset ha)) rfl
  | dropLink n =>
    refine h.modifyLink (f := fun p => { p with queue := p.queue.drop n }) ?_
    rw [List.length_drop]
    exact (Nat.sub_le _ _).trans h.ports.link
  | outbound l p => exact h.setOutbound l p
  | openLink => exact (h.modifyLink (f := fun p => { p with isOpen := true, refreshOwed := true }) h.ports.link).withInterest _
  | closeLink cause => exact h.closeLink cause
  | offer n => exact h.offered n
  | attempt k => exact h.moveAttempt k
  | fail k cooldown => exact h.failTransaction k cooldown
  | hear i r held => exact (h.markHeard i).reactivate i (h.records i r held).inRange.talkgroups
  | call i inCall => exact h.markRecord i fun _ => rfl
  | uplink i a g => exact h.withHome h i a g
  | downlink i r a g site t held known routed =>
    refine h.modifyRecord i fun x hx hsound => ?_
    rw [held] at hx
    cases hx
    exact hsound.routed (State.neighbour?_isSome known) (h.scored a g).1 (h.scored a g).2 routed
  | levels start entries => exact h.writeLevels start entries
  | penalties start entries => exact h.writePenalties start entries
  | enter c f t i absent range given =>
    obtain ⟨hunit, hseq⟩ := RegisterFields.inRange_unit range
    exact (h.allocate hunit hseq given).written c f i [] true
  | readmit c f i r seq claim held unit range stored =>
    obtain ⟨-, hseq⟩ := RegisterFields.inRange_unit range
    have hstored : seq ≤ 15 := by
      rcases stored with rfl | rfl
      · exact (h.records i r held).inRange.seq
      · exact hseq
    exact (h.modifyRecord i fun x _ hx => hx.readmitted hstored).written c f i _ claim
  | release i => exact h.release i
  | askNew f t i absent range given =>
    obtain ⟨hunit, -, hseq⟩ := AskFields.inRange_unit range
    exact (h.allocate hunit hseq given).modifyRecord i fun x _ hx => hx.asked range
  | askExpected f i r held state range => exact h.modifyRecord i fun x _ hx => hx.asked range
  | askLost f i r held state range => exact ((h.modifyRecord i fun x _ hx => hx.asked range).dropClaim i).toTail i
  | sweepExpiry => exact h.sweepExpiry
  | stamp i r held unvisited =>
    exact BlocksSound.withSweep (h.markRecord i (f := fun r => { r with stamp := s.sweep.parity }) fun _ => rfl) _
  | shift i => exact h.markRecord i fun _ => rfl
  | lose i r held state => exact h.lose i r
  | poll p r => exact h.poll p r
  | ageEntries i life => exact h.modifyRecord i fun x _ hx => hx.agedEntries life
  | decide p i r held state => exact h.decideHandover p held
  | older i => exact h.modifyRecord i fun x _ hx => hx.withStateAge (Nat.min_le_left _ _)
  | rest i => exact h.markRecord i fun _ => rfl
  | setSlot k site bias range kept =>
    exact h.setNeighbour h rfl rfl bias range fun i r _ e _ n hn _ => removedSite_eq_none kept hn
  | replaceSlot k site gone bias range removed =>
    refine h.setNeighbour (h.removeSite gone) (s.removeSite_neighbours gone) (s.removeSite_protection gone) bias range
      fun i r hr e he n hn hsite => ?_
    obtain ⟨m, hm, hgone⟩ := removedSite_eq_some removed
    rw [hm] at hn
    cases hn
    exact absurd (hsite.symm.trans hgone) (s.removeSite_entries gone i r hr e he)
  | linkState k n l held opened =>
    refine h.setSlot (fun m hm => ?_) (fun m hm j q hj hq hsite => ?_) fun i r hr e he m hm hsite => ?_
    · cases hm
      exact h.neighbours.inRange k n held
    · cases hm
      exact hj (h.neighbours.distinct j k q n hq held hsite)
    · rw [held] at hm
      cases hm
      exact ⟨_, rfl, hsite⟩
  | neighbourDown site => exact h.neighbourDown site
  | profileField name code value range => exact h.profileField name value range
  | incident flag => exact h.withProfiles ⟨h.profiles.normal, h.profiles.incident, rfl⟩
  | site n range empty => exact h.setSite range
  | ownLocks g => exact h.withLocks rfl
  | marks g => exact h.withLocks rfl
  | limits f => exact h.limits f
  | siteReset => exact h.siteReset
  | leaveExpiry tg => exact h.withInterest _
  | flush time =>
    refine h.modifyLink (f := fun p => { p with queue := flushOldest time p.queue }) ?_
    rw [length_flushOldest]
    exact h.ports.link

theorem BlocksSound.postLink {s : State} (h : BlocksSound s) (room : s.linkHasRoom = true) (n : LinkNotice) :
    BlocksSound (s.postLink n) := by
  simp only [State.linkHasRoom, Bool.and_eq_true, decide_eq_true_eq] at room
  refine h.modifyLink (f := fun p => { p with queue := p.queue ++ [⟨n, 0⟩] }) ?_
  rw [List.length_append]
  exact room.2

theorem BlocksSound.grant {s : State} (h : BlocksSound s) (room : s.linkHasRoom = true) (k : Fin 8) (i : Index) (r : Record) :
    BlocksSound (s.grant k i r) := by
  have hgranted := h.modifyRecord i (f := fun r => r.granted k) fun x _ hx => Record.Sound.same hx.unqueued rfl
  refine BlocksSound.postLink (hgranted.withHandover fun j => ?_) room _
  simp only [getElem_set_fin]
  split
  · exact Nat.le_of_lt_succ (Nat.mod_lt _ (by decide))
  · exact h.generations j

theorem BlocksSound.grantPlace {s t : State} (hg : s.grantPlace = some t) (h : BlocksSound s) : BlocksSound t := by
  obtain ⟨room, h1 | h1 | h1 | h1 | h1⟩ := State.grantPlace_cases hg
  · obtain ⟨-, rfl⟩ := h1
    exact BlocksSound.postLink (h.modifyLink (f := fun p => { p with refreshOwed := false }) h.ports.link) room _
  · obtain ⟨-, e, rest, -, rfl⟩ := h1
    exact BlocksSound.postLink (BlocksSound.withClaims (h.markRecord e.index (f := fun r => { r with claimPending := false }) fun _ => rfl)
      s.claims.tail) room _
  · obtain ⟨-, -, tg, rest, -, rfl⟩ := h1
    exact (h.withInterest (s.interest.leavePosted tg)).postLink room _
  · obtain ⟨-, -, -, k, tg, -, rfl⟩ := h1
    exact (h.withInterest (s.interest.markAnnounced k)).postLink room _
  · obtain ⟨-, -, -, -, k, i, r, -, rfl⟩ := h1
    exact h.grant room k i r

theorem BlocksSound.checkSweep {s : State} (h : BlocksSound s) : BlocksSound s.checkSweep := by
  unfold State.checkSweep
  split
  · have hend := h.withSweep { s.sweep with inFlight := false, snapshot := none }
    dsimp only
    split
    · exact (hend.withSweep _).startSweep
    · exact hend
  · exact h

theorem BlocksSound.refreshLines {s : State} (h : BlocksSound s) : BlocksSound s.refreshLines := by
  have hports : s.refreshLines.ports.Sound :=
    { link := h.ports.link
      channels := fun c => by simpa [State.refreshLines, ChannelPort.withLine] using h.ports.channels c
      chatter := fun c => by simpa [State.refreshLines, ChannelPort.withLine] using h.ports.chatter c
      alarms := h.ports.alarms
      repeats := h.ports.repeats
      allowance := h.ports.allowance }
  exact h.change hports h.records h.generations

theorem BlocksSound.pinLow {s : State} (h : BlocksSound s) : BlocksSound s.pinLow := by
  have hports : s.pinLow.ports.Sound :=
    { link := h.ports.link
      channels := fun c => by simpa [State.pinLow] using h.ports.channels c
      chatter := fun c => by simpa [State.pinLow] using h.ports.chatter c
      alarms := h.ports.alarms
      repeats := h.ports.repeats
      allowance := h.ports.allowance }
  exact h.change hports h.records h.generations

theorem BlocksSound.tick {s : State} (pin : s.resetPinLow = false) (h : BlocksSound s) : BlocksSound s.tick := by
  have hadvanced : BlocksSound s.advance := by
    refine h.change (h.ports.withLink ?_) h.records fun k => ?_
    · rw [List.length_map]
      exact h.ports.link
    · simpa [State.advance, Slot.advance] using h.generations k
  have hlines := hadvanced.refreshLines
  rw [State.tick_eq pin]
  exact hlines.change hlines.ports hlines.records hlines.generations

theorem Profile.normalDefault_inRange : Profile.normalDefault.inRange := by unfold Profile.inRange; decide

theorem Profile.incidentDefault_inRange : Profile.incidentDefault.inRange := by unfold Profile.inRange; decide

theorem blocksSound_reset : BlocksSound State.reset where
  ports :=
    { link := Nat.zero_le _
      channels := fun c => by simp [State.reset, PortUnit.reset]
      chatter := fun c => by simp [State.reset, PortUnit.reset]
      alarms := List.nodup_nil
      repeats := nofun
      allowance := by decide }
  scoring :=
    { levels := fun i => by
        have hi := i.isLt
        simp only [State.reset, ScoringUnit.reset, Fin.getElem_fin, Vector.getElem_ofFn]
        split <;> omega
      penalties := fun g => by
        have hg := g.isLt
        simp only [State.reset, ScoringUnit.reset, Fin.getElem_fin, Vector.getElem_ofFn]
        omega }
  profiles := ⟨Profile.normalDefault_inRange, Profile.incidentDefault_inRange, rfl⟩
  neighbours :=
    { inRange := fun k n hn => by simp [State.reset] at hn
      distinct := fun j k m n hm => by simp [State.reset] at hm }
  records i r hr := by rw [State.record?_reset] at hr; cases hr
  generations k := by simp [State.reset, HandoverUnit.reset]
  reserve := by decide
  site := by decide

theorem ranges_invariant : Invariant BlocksSound BlocksSound where
  start _ h := h
  pending _ _ h := h.change h.ports h.records h.generations
  pinLow _ h := h.pinLow
  powerOn _ := blocksSound_reset.change blocksSound_reset.ports blocksSound_reset.records blocksSound_reset.generations
  tick _ pin h := h.tick pin
  deed _ _ := BlocksSound.deed
  settle _ := State.settle_induction (P := BlocksSound) (fun _ => BlocksSound.checkSweep) (fun _ _ => BlocksSound.grantPlace)
    (fun _ => BlocksSound.refreshLines)
  confirm s p c h := h.setOutbound _ p

/-- Settles O59: every number written is clamped, tested, counted against its bound or taken from one in range. -/
theorem stepKeepsRanges : Obligations.StepKeepsRanges := by
  intro s t hs h
  exact (rangesSound_iff t).mpr (ranges_invariant.step h ((rangesSound_iff s).mp hs))

end Sys2Proof.Machine
end

section
/-! PROOF. What a done REGISTER writes (03 R48, R49), as one assignment of each block. -/

namespace Sys2Proof.Machine

/-- The interest map's counts and alarms do not read the records or the handover unit (R120). -/
theorem State.countTalkgroups_with (s : State) (v : VisitorTable) (h : HandoverUnit) (unit : Nat) (l : List Nat) :
    ({ s with visitors := v, handover := h } : State).countTalkgroups unit l =
      ({ (s.countTalkgroups unit l).1 with visitors := v, handover := h }, (s.countTalkgroups unit l).2) := by
  induction l generalizing s with
  | nil => rfl
  | cons tg rest ih =>
    unfold State.countTalkgroups
    dsimp only
    cases s.interest.increment tg with
    | some m =>
      have hm := ih { s with interest := m }
      dsimp only at hm ⊢
      rw [hm]
    | none =>
      have hm := ih (s.raiseAlarm .mapFull unit)
      dsimp only at hm ⊢
      rw [← hm]
      rfl

/-- The counts of a done REGISTER, against the old counted list (R48). -/
def State.recounted (s : State) (unit : Nat) (old requested : List Nat) : State × List Nat :=
  (s.uncountTalkgroups (old.filter (fun tg => !requested.contains tg))).countTalkgroups unit (requested.filter (fun tg => !old.contains tg))

/-- The class queues when the class of a record is stored: a queued record whose class changes joins its new queue's tail (R49). -/
def HandoverUnit.reclassed (h : HandoverUnit) (i : Index) (r : Record) (cls : RadioClass) : HandoverUnit :=
  { h with queues := Vector.ofFn (fun d : Fin 4 =>
      if r.queued = true ∧ r.cls ≠ cls then h.queues[d].filter (fun j => j != i) ++ (if d = cls.index then [i] else []) else h.queues[d]) }

/-- The pending-claims list when a done REGISTER owes a CLAIM, or does not (R65). -/
def owedClaims (l : List PendingClaim) (i : Index) (fresh claim : Bool) : List PendingClaim :=
  if claim = false then l
  else if ∃ x ∈ l, x.index = i then l.map (fun x => if x.index = i then { x with fresh := x.fresh || fresh } else x)
  else l ++ [⟨i, fresh⟩]

/-- The record of a done REGISTER (R49). -/
def Record.registered (r : Record) (c : Fin 4) (cls : RadioClass) (home : Nat) (talkgroups : List Nat) (claim : Bool) : Record :=
  { r with
    serving := some c, cls := cls, heard := true, home := some home, talkgroups := talkgroups
    claimPending := r.claimPending || claim }

theorem HandoverUnit.reclassed_eq (h : HandoverUnit) (i : Index) (r : Record) (cls : RadioClass) :
    h.reclassed i r cls = if r.queued = true ∧ r.cls ≠ cls then (h.dequeue i).enqueue cls i else h := by
  have hqueues : (h.reclassed i r cls).queues = (if r.queued = true ∧ r.cls ≠ cls then (h.dequeue i).enqueue cls i else h).queues := by
    ext1 d hd
    simp only [HandoverUnit.reclassed, Vector.getElem_ofFn]
    split
    · exact ((HandoverUnit.queues_enqueue (h.dequeue i) cls i ⟨d, hd⟩).trans
        (congrArg (· ++ _) (HandoverUnit.queues_dequeue h i ⟨d, hd⟩))).symm
    · rfl
  have hslots : (if r.queued = true ∧ r.cls ≠ cls then (h.dequeue i).enqueue cls i else h).slots = h.slots := by
    split <;> rfl
  calc h.reclassed i r cls = { h with queues := (h.reclassed i r cls).queues } := rfl
    _ = (if r.queued = true ∧ r.cls ≠ cls then (h.dequeue i).enqueue cls i else h) := by
      rw [hqueues]
      conv_lhs => rw [← hslots]

theorem State.changeClass_eq {s : State} {i : Index} {r : Record} (h : s.record? i = some r) (cls : RadioClass) :
    s.changeClass i cls = { s.modifyRecord i (fun x => { x with cls := cls }) with handover := s.handover.reclassed i r cls } := by
  unfold State.changeClass
  rw [h, HandoverUnit.reclassed_eq]
  dsimp only
  split <;> rfl

theorem State.oweClaim_eq (s : State) (i : Index) (fresh : Bool) :
    s.oweClaim i fresh = { s.modifyRecord i (fun r => { r with claimPending := true }) with
      claims := owedClaims s.claims i fresh true } := by
  have hany : (s.claims.any fun e => e.index == i) = true ↔ ∃ x ∈ s.claims, x.index = i := by simp
  unfold State.oweClaim owedClaims
  dsimp only
  simp only [Bool.true_eq_false, if_false]
  split
  next h => rw [if_pos (hany.mp h)]; rfl
  next h => rw [if_neg (mt hany.mpr h)]; rfl

theorem Vector.set_set_same {α : Type} {n : Nat} (v : Vector α n) (k : Fin n) (a b : α) : (v.set k a).set k b = v.set k b := by
  simp

/-- The record of a done REGISTER before its talkgroups are counted (R49). -/
theorem State.written_before_talkgroups {s : State} {i : Index} {r : Record} (h : s.record? i = some r) (c : Fin 4) (cls : RadioClass)
    (sample : Scored) :
    ((((s.changeClass i cls).modifyRecord i (fun r => { r with serving := some c })).applyUplink i sample).markHeard i) = { s with
      visitors := { s.visitors with
        records := s.visitors.records.set i (some
          { r with cls := cls, serving := some c, home := some (sample.into r.home).1, heard := true })
        age := s.visitors.age.filter (fun j => j != i) ++ [i] }
      handover := s.handover.reclassed i r cls } := by
  unfold State.markHeard State.applyUplink
  rw [State.changeClass_eq h, State.modifyRecord_behind_handover, State.modifyRecord_behind_handover, State.modifyRecord_behind_handover,
    State.modifyRecord_eq_set h]
  rfl

/-- The talkgroup list stored and counted does not read the records or the handover unit (R48). -/
theorem State.setTalkgroups_with (s : State) (v : VisitorTable) (h : HandoverUnit) (i : Index) (unit : Nat) (old requested : List Nat) :
    ({ s with visitors := v, handover := h } : State).setTalkgroups i unit old requested = { (s.recounted unit old requested).1 with
      visitors := v.modify i (fun r =>
        { r with talkgroups := requested.filter (fun tg => old.contains tg || (s.recounted unit old requested).2.contains tg) })
      handover := h } := by
  have huncount : ({ s with visitors := v, handover := h } : State).uncountTalkgroups (old.filter fun tg => !requested.contains tg) =
      { s.uncountTalkgroups (old.filter fun tg => !requested.contains tg) with visitors := v, handover := h } := rfl
  unfold State.setTalkgroups
  dsimp only
  rw [huncount, State.countTalkgroups_with]
  rfl

theorem State.recounted_eq (s : State) (unit : Nat) (old requested : List Nat) : (s.recounted unit old requested).1 = { s with
    interest := (s.recounted unit old requested).1.interest
    ports := { s.ports with maintenance := { s.ports.maintenance with
      alarms := (s.recounted unit old requested).1.ports.maintenance.alarms } } } := by
  unfold State.recounted
  rw [State.countTalkgroups_eq]
  rfl

/-- A done REGISTER writes the record, moves it to the tail of the age list, and sets the counts, the queues and the claims (R48, R49). -/
theorem State.written_eq {s : State} {i : Index} {r : Record} (h : s.record? i = some r) (c : Fin 4) (f : RegisterFields) (old : List Nat)
    (claim : Bool) {cls : RadioClass} (hcls : cls = (RadioClass.ofCode f.cls).getD .general) {home : Nat}
    (hhome : home = ((s.scored f.attenuation f.grade).into r.home).1) {requested : List Nat}
    (hreq : requested = requestedList f.talkgroups) :
    s.written c f i old claim = { (s.recounted f.unit old requested).1 with
      visitors := { s.visitors with
        records := s.visitors.records.set i (some (r.registered c cls home
          (requested.filter (fun tg => old.contains tg || (s.recounted f.unit old requested).2.contains tg)) claim))
        age := s.visitors.age.filter (fun j => j != i) ++ [i] }
      claims := owedClaims s.claims i f.fresh claim
      handover := s.handover.reclassed i r cls } := by
  subst hcls hhome hreq
  have hheard := s.written_before_talkgroups h c ((RadioClass.ofCode f.cls).getD .general) (s.scored f.attenuation f.grade)
  unfold State.written
  dsimp only
  rw [hheard, State.setTalkgroups_with, State.recounted_eq]
  cases claim with
  | false =>
    rw [if_neg Bool.false_ne_true]
    simp [VisitorTable.modify, Record.registered, owedClaims]
  | true =>
    rw [if_pos rfl, State.oweClaim_eq]
    simp [State.modifyRecord, VisitorTable.modify, Record.registered]

end Sys2Proof.Machine
end

section
/-! PROOF. The interest map against member counts (06 R118 to R128): what each of its operations keeps. -/

namespace Sys2Proof.Machine

/-! ## The map and its counts -/

/-- The entries of the map stand for distinct talkgroups with their member counts, a talkgroup with members has one, and the leaving order
names the entries without members (R118, R119, R123). -/
structure MapExact (m : InterestMap) (count : Nat → Nat) : Prop where
  distinct : ∀ (j k : Place) (d e : MapEntry), m.places[j] = some d → m.places[k] = some e → d.talkgroup = e.talkgroup → j = k
  entry : ∀ (k : Place) (e : MapEntry), m.places[k] = some e → e.count = count e.talkgroup ∧ (e.isLeaving = true ↔ e.count = 0)
  mapped : ∀ tg, 0 < count tg → ∃ (k : Place) (e : MapEntry), m.places[k] = some e ∧ e.talkgroup = tg
  leavingNodup : m.leaving.Nodup
  leaving_iff : ∀ k : Place, k ∈ m.leaving ↔ ∃ e, m.places[k] = some e ∧ e.isLeaving = true

/-- The map agrees with the counts, and its marks with the owed LEAVEs (R121, R126). -/
structure MapSound (m : InterestMap) (count : Nat → Nat) : Prop where
  exact : MapExact m count
  owed : OwedLeavesExact m

theorem MapExact.congr {m : InterestMap} {count other : Nat → Nat} (h : MapExact m count) (hc : ∀ tg, other tg = count tg) :
    MapExact m other := by
  rw [show other = count from funext hc]
  exact h

/-- The number of announced entries. -/
def InterestMap.announcedCount (m : InterestMap) : Nat := m.places.toList.countP (fun o => o.any MapEntry.announced)

theorem InterestMap.announcedCount_set (m : InterestMap) (k : Place) (o : Option MapEntry) :
    (m.places.set k o).toList.countP (fun o => o.any MapEntry.announced) + (if m.places[k].any MapEntry.announced then 1 else 0) =
      m.announcedCount + (if o.any MapEntry.announced then 1 else 0) :=
  countP_toList_set m.places k o _

theorem InterestMap.announcedCount_le (m : InterestMap) : m.announcedCount ≤ 256 := by
  unfold InterestMap.announcedCount
  exact List.countP_le_length.trans (by simp)

/-- What a counted talkgroup's entry is, one member more or fewer. -/
def countChanged (count : Nat → Nat) (tg n : Nat) : Nat → Nat := fun u => if u = tg then n else count u

/-- An entry's count and phase rewritten in its place (R121, R122, R123). -/
theorem MapExact.setEntry {m : InterestMap} {count : Nat → Nat} (h : MapExact m count) {k : Place} {e d : MapEntry}
    (he : m.places[k] = some e) (talkgroup : d.talkgroup = e.talkgroup) (phase : d.isLeaving = true ↔ d.count = 0) {t : InterestMap}
    (places : t.places = m.places.set k (some d)) (nodup : t.leaving.Nodup)
    (leaving : ∀ j : Place, j ∈ t.leaving ↔ if j = k then d.isLeaving = true else j ∈ m.leaving) :
    MapExact t (countChanged count e.talkgroup d.count) := by
  have hplace : ∀ j : Place, t.places[j] = if j = k then some d else m.places[j] := fun j => by rw [places, getElem_set_fin]
  have hother : ∀ (j : Place) (x : MapEntry), j ≠ k → m.places[j] = some x → x.talkgroup ≠ e.talkgroup := fun j x hj hx htg =>
    hj (h.distinct j k x e hx he htg)
  refine ⟨fun i j x y hx hy hxy => ?_, fun j x hx => ?_, fun tg htg => ?_, nodup, fun j => ?_⟩
  · rw [hplace] at hx hy
    by_cases hi : i = k <;> by_cases hj : j = k <;> simp only [hi, hj, if_true, if_false, Option.some.injEq] at hx hy ⊢
    · subst hx
      exact absurd (hxy.symm.trans talkgroup) (hother j y hj hy)
    · subst hy
      exact absurd (hxy.trans talkgroup) (hother i x hi hx)
    · exact h.distinct i j x y hx hy hxy
  · rw [hplace] at hx
    split at hx
    · cases hx
      exact ⟨by simp [countChanged, talkgroup], phase⟩
    next hj =>
      have hcount := (h.entry j x hx).1
      exact ⟨by rw [countChanged, if_neg (hother j x hj hx), hcount], (h.entry j x hx).2⟩
  · by_cases htgk : tg = e.talkgroup
    · exact ⟨k, d, by rw [hplace, if_pos rfl], by rw [talkgroup, htgk]⟩
    · rw [countChanged, if_neg htgk] at htg
      obtain ⟨j, x, hx, hxtg⟩ := h.mapped tg htg
      have hj : j ≠ k := by
        rintro rfl
        rw [he] at hx
        cases hx
        exact htgk hxtg.symm
      exact ⟨j, x, by rw [hplace, if_neg hj, hx], hxtg⟩
  · rw [leaving j, hplace]
    split
    · simp
    · exact h.leaving_iff j

/-- The marks of the map while one entry's count and phase are rewritten. -/
theorem OwedLeavesExact.setEntry {m : InterestMap} (h : OwedLeavesExact m) {k : Place} {e d : MapEntry} (he : m.places[k] = some e)
    (same : d.talkgroup = e.talkgroup ∧ d.announced = e.announced ∧ d.leaveOwed = e.leaveOwed) {t : InterestMap}
    (places : t.places = m.places.set k (some d)) (owed : t.owedLeaves = m.owedLeaves) : OwedLeavesExact t := by
  obtain ⟨htalkgroup, hannounced, howed⟩ := same
  have hplace : ∀ j : Place, t.places[j] = if j = k then some d else m.places[j] := fun j => by rw [places, getElem_set_fin]
  refine ⟨by rw [owed]; exact h.nodup, ?_, fun j x hx => ?_, fun j x hx ha => ?_⟩
  · have hset := m.announcedCount_set k (some d)
    rw [he, Option.any_some, Option.any_some, hannounced] at hset
    have hcapacity : m.owedLeaves.length + m.announcedCount ≤ 256 := h.capacity
    rw [owed, places]
    omega
  · rw [owed]
    rw [hplace] at hx
    split at hx
    · cases hx
      rw [howed, htalkgroup]
      exact h.marks k e he
    · exact h.marks j x hx
  · rw [owed]
    rw [hplace] at hx
    split at hx
    · cases hx
      rw [htalkgroup]
      exact h.announced k e he (hannounced ▸ ha)
    · exact h.announced j x hx ha

/-- An entry without members leaves its place (R124, R125). -/
theorem MapSound.remove {m : InterestMap} {count : Nat → Nat} (h : MapSound m count) {k : Place} {e : MapEntry}
    (he : m.places[k] = some e) (leaving : e.isLeaving = true) : MapSound (m.remove k) count := by
  have hremove : m.remove k = {
      places := m.places.set k none
      leaving := m.leaving.filter (fun j => j != k)
      owedLeaves := if e.announced then m.owedLeaves ++ [e.talkgroup] else m.owedLeaves } := by
    unfold InterestMap.remove
    rw [he]
  have hplace : ∀ j : Place, (m.remove k).places[j] = if j = k then none else m.places[j] := fun j => by
    rw [hremove]
    exact getElem_set_fin m.places k j none
  have hheld : ∀ (j : Place) (x : MapEntry), (m.remove k).places[j] = some x → j ≠ k ∧ m.places[j] = some x := fun j x hx => by
    rw [hplace] at hx
    split at hx
    · cases hx
    next hj => exact ⟨hj, hx⟩
  have hzero : count e.talkgroup = 0 := by
    obtain ⟨hcount, hleaving⟩ := h.exact.entry k e he
    rw [← hcount]
    exact hleaving.mp leaving
  have hother : ∀ (j : Place) (x : MapEntry), j ≠ k → m.places[j] = some x → x.talkgroup ≠ e.talkgroup := fun j x hj hx htg =>
    hj (h.exact.distinct j k x e hx he htg)
  have hcapacity : m.owedLeaves.length + m.announcedCount ≤ 256 := h.owed.capacity
  have hset := m.announcedCount_set k none
  rw [he, Option.any_some, Option.any_none] at hset
  refine ⟨⟨fun i j x y hx hy hxy => ?_, fun j x hx => ?_, fun tg htg => ?_, ?_, fun j => ?_⟩,
    ⟨?_, ?_, fun j x hx => ?_, fun j x hx ha => ?_⟩⟩
  · exact h.exact.distinct i j x y (hheld i x hx).2 (hheld j y hy).2 hxy
  · exact h.exact.entry j x (hheld j x hx).2
  · obtain ⟨j, x, hx, rfl⟩ := h.exact.mapped tg htg
    have hj : j ≠ k := by
      rintro rfl
      rw [he] at hx
      cases hx
      omega
    exact ⟨j, x, by rw [hplace, if_neg hj, hx], rfl⟩
  · rw [hremove]
    exact h.exact.leavingNodup.filter _
  · rw [hremove]
    show j ∈ m.leaving.filter (fun j => j != k) ↔ ∃ e, (m.places.set k none)[j] = some e ∧ e.isLeaving = true
    rw [List.mem_filter, h.exact.leaving_iff j, getElem_set_fin]
    by_cases hj : j = k <;> simp [hj]
  · rw [hremove]
    dsimp only
    split
    next ha =>
      refine List.nodup_append.mpr ⟨h.owed.nodup, List.nodup_singleton _, fun a hat b hb => ?_⟩
      rw [List.mem_singleton.mp hb]
      rintro rfl
      exact h.owed.announced k e he ha hat
    next => exact h.owed.nodup
  · rw [hremove]
    dsimp only
    split
    next ha =>
      rw [ha] at hset
      simp only [if_true, Bool.false_eq_true, if_false] at hset
      rw [List.length_append, List.length_singleton]
      omega
    next ha =>
      simp only [ha, Bool.false_eq_true, if_false] at hset
      omega
  · obtain ⟨hj, hm⟩ := hheld j x hx
    have hne := hother j x hj hm
    rw [h.owed.marks j x hm, hremove]
    dsimp only
    split
    · simp [hne]
    · rfl
  · obtain ⟨hj, hm⟩ := hheld j x hx
    have hne := hother j x hj hm
    have hnot := h.owed.announced j x hm ha
    rw [hremove]
    dsimp only
    split
    · simp [hne, hnot]
    · exact hnot

/-- A talkgroup without an entry takes an empty place (R121). -/
theorem MapSound.create {m : InterestMap} {count : Nat → Nat} (h : MapSound m count) {k : Place} (hk : m.places[k] = none) {tg : Nat}
    (absent : ∀ (j : Place) (e : MapEntry), m.places[j] = some e → e.talkgroup ≠ tg) :
    MapSound (m.create k tg) (countChanged count tg (count tg + 1)) := by
  have hplace : ∀ j : Place, (m.create k tg).places[j] =
      if j = k then some ⟨tg, 1, .joined, false, m.owedLeaves.contains tg⟩ else m.places[j] :=
    fun j => getElem_set_fin m.places k j _
  have hzero : count tg = 0 := by
    by_contra hpos
    obtain ⟨j, e, he, htg⟩ := h.exact.mapped tg (Nat.pos_of_ne_zero hpos)
    exact absent j e he htg
  have hset := m.announcedCount_set k (some ⟨tg, 1, .joined, false, m.owedLeaves.contains tg⟩)
  rw [hk, Option.any_some, Option.any_none] at hset
  have hcapacity : m.owedLeaves.length + m.announcedCount ≤ 256 := h.owed.capacity
  refine ⟨⟨fun i j x y hx hy hxy => ?_, fun j x hx => ?_, fun u hu => ?_, h.exact.leavingNodup, fun j => ?_⟩,
    ⟨h.owed.nodup, ?_, fun j x hx => ?_, fun j x hx ha => ?_⟩⟩
  · rw [hplace] at hx hy
    by_cases hi : i = k <;> by_cases hj : j = k <;> simp only [hi, hj, if_true, if_false, Option.some.injEq] at hx hy ⊢
    · subst hx
      exact absurd hxy.symm (absent j y hy)
    · subst hy
      exact absurd hxy (absent i x hx)
    · exact h.exact.distinct i j x y hx hy hxy
  · rw [hplace] at hx
    split at hx
    · cases hx
      simp [countChanged, hzero, MapEntry.isLeaving]
    · rw [countChanged, if_neg (absent j x hx)]
      exact h.exact.entry j x hx
  · by_cases hutg : u = tg
    · exact ⟨k, _, by rw [hplace, if_pos rfl], hutg.symm⟩
    · rw [countChanged, if_neg hutg] at hu
      obtain ⟨j, x, hx, hxu⟩ := h.exact.mapped u hu
      have hj : j ≠ k := by
        rintro rfl
        rw [hk] at hx
        cases hx
      exact ⟨j, x, by rw [hplace, if_neg hj, hx], hxu⟩
  · refine (h.exact.leaving_iff j).trans ?_
    rw [hplace]
    by_cases hj : j = k
    · subst hj
      simp [hk, MapEntry.isLeaving]
    · simp [hj]
  · show m.owedLeaves.length + (m.places.set k (some ⟨tg, 1, .joined, false, m.owedLeaves.contains tg⟩)).toList.countP _ ≤ 256
    simp only [Bool.false_eq_true, if_false] at hset
    omega
  · rw [hplace] at hx
    split at hx
    · cases hx
      exact List.contains_iff_mem
    · exact h.owed.marks j x hx
  · rw [hplace] at hx
    split at hx
    · cases hx
      cases ha
    · exact h.owed.announced j x hx ha

/-! ## Increments and decrements -/

theorem MapSound.congr {m : InterestMap} {count other : Nat → Nat} (h : MapSound m count) (hc : ∀ tg, other tg = count tg) :
    MapSound m other := ⟨h.exact.congr hc, h.owed⟩

theorem emptyPlace?_eq_some {m : InterestMap} {k : Place} (h : m.emptyPlace? = some k) : m.places[k] = none :=
  Option.isNone_iff_eq_none.mp (firstPlace?_eq_some.mp h).1

theorem InterestMap.remove_places (m : InterestMap) (k j : Place) : (m.remove k).places[j] = if j = k then none else m.places[j] := by
  unfold InterestMap.remove
  split
  next he =>
    split
    next hj => rw [hj, he]
    next => rfl
  next => exact getElem_set_fin m.places k j none

/-- An increment counts one member more, unless the talkgroup cannot be mapped (R121, R122, R124). -/
theorem MapSound.increment {m t : InterestMap} {count : Nat → Nat} (h : MapSound m count) {tg : Nat} (hi : m.increment tg = some t) :
    MapSound t (countChanged count tg (count tg + 1)) := by
  unfold InterestMap.increment at hi
  split at hi
  next k hk =>
    obtain ⟨⟨e, he, rfl⟩, -⟩ := InterestMap.place?_eq_some.mp hk
    rw [he] at hi
    cases hi
    obtain ⟨hcount, -⟩ := h.exact.entry k e he
    rw [← hcount]
    refine ⟨h.exact.setEntry (d := { e with count := e.count + 1, phase := .joined }) he rfl (by simp [MapEntry.isLeaving]) rfl
      (h.exact.leavingNodup.filter _) fun j => ?_,
      h.owed.setEntry (d := { e with count := e.count + 1, phase := .joined }) he ⟨rfl, rfl, rfl⟩ rfl rfl⟩
    rw [List.mem_filter]
    by_cases hj : j = k <;> simp [hj, MapEntry.isLeaving]
  next habsent =>
    have habsent := InterestMap.place?_eq_none.mp habsent
    split at hi
    next k hk =>
      cases hi
      exact h.create (emptyPlace?_eq_some hk) habsent
    next =>
      split at hi
      next => cases hi
      next k rest hleaving =>
        cases hi
        obtain ⟨e, he, hphase⟩ := (h.exact.leaving_iff k).mp (by rw [hleaving]; exact List.mem_cons_self)
        refine (h.remove he hphase).create (by rw [InterestMap.remove_places, if_pos rfl]) fun j x hx => ?_
        rw [InterestMap.remove_places] at hx
        split at hx
        · cases hx
        · exact habsent j x hx

/-- A decrement counts one member fewer; an entry without members goes LEAVING (R123). -/
theorem MapSound.decrement {m : InterestMap} {count : Nat → Nat} (h : MapSound m count) (hold : Nat) {tg : Nat} (pos : 0 < count tg) :
    MapSound (m.decrement hold tg) (countChanged count tg (count tg - 1)) := by
  unfold InterestMap.decrement
  split
  next habsent =>
    obtain ⟨k, e, he, htg⟩ := h.exact.mapped tg pos
    exact absurd htg (InterestMap.place?_eq_none.mp habsent k e he)
  next k hk =>
    obtain ⟨⟨e, he, rfl⟩, -⟩ := InterestMap.place?_eq_some.mp hk
    obtain ⟨hcount, hleaving⟩ := h.exact.entry k e he
    have hjoined : ¬ e.isLeaving = true := fun hl => by have := hleaving.mp hl; omega
    have hnot : k ∉ m.leaving := fun hm => by
      obtain ⟨x, hx, hxl⟩ := (h.exact.leaving_iff k).mp hm
      rw [he] at hx
      cases hx
      exact hjoined hxl
    rw [he]
    dsimp only
    rw [← hcount] at pos ⊢
    split
    next htwo =>
      refine ⟨h.exact.setEntry (d := { e with count := e.count - 1 }) he rfl ?_ rfl h.exact.leavingNodup fun j => ?_,
        h.owed.setEntry (d := { e with count := e.count - 1 }) he ⟨rfl, rfl, rfl⟩ rfl rfl⟩
      · exact ⟨fun hl => absurd hl hjoined, fun hz => by dsimp only at hz; omega⟩
      · split
        next hj => rw [hj]; exact ⟨fun hm => absurd hm hnot, fun hl => absurd hl hjoined⟩
        next => exact Iff.rfl
    next htwo =>
      have hone : e.count = 1 := by omega
      rw [if_pos hone, hone]
      refine ⟨h.exact.setEntry (d := { e with count := 0, phase := .leaving (Timer.load hold) }) he rfl (by simp [MapEntry.isLeaving]) rfl
        ?_ fun j => ?_, h.owed.setEntry (d := { e with count := 0, phase := .leaving (Timer.load hold) }) he ⟨rfl, rfl, rfl⟩ rfl rfl⟩
      · refine List.nodup_append.mpr ⟨h.exact.leavingNodup, List.nodup_singleton k, fun j hj l hl => ?_⟩
        rw [List.mem_singleton.mp hl]
        rintro rfl
        exact hnot hj
      · rw [List.mem_append, List.mem_singleton]
        by_cases hj : j = k <;> simp [hj, MapEntry.isLeaving]

/-- The decrements of one event count one member fewer for each talkgroup of its list (R120). -/
theorem MapSound.decrementAll {m : InterestMap} {count : Nat → Nat} (h : MapSound m count) (hold : Nat) {l : List Nat} (nodup : l.Nodup)
    (pos : ∀ tg ∈ l, 0 < count tg) :
    MapSound (m.decrementAll hold l) (fun tg => count tg - if tg ∈ l then 1 else 0) := by
  induction l generalizing m count with
  | nil => exact h.congr fun _ => by simp
  | cons tg rest ih =>
    rw [List.nodup_cons] at nodup
    obtain ⟨hnew, hnodup⟩ := nodup
    have hfirst := h.decrement hold (pos tg List.mem_cons_self)
    refine (ih hfirst hnodup fun u hu => ?_).congr fun u => ?_
    · have hne : u ≠ tg := fun e => hnew (e ▸ hu)
      rw [countChanged, if_neg hne]
      exact pos u (List.mem_cons_of_mem tg hu)
    · by_cases hu : u = tg
      · simp [hu, countChanged, hnew]
      · simp [hu, countChanged]

/-- The increments of one event count one member more for each talkgroup that could be mapped (R120, R124). -/
theorem MapSound.countTalkgroups {s : State} {count : Nat → Nat} (h : MapSound s.interest count) (unit : Nat) {l : List Nat}
    (nodup : l.Nodup) : MapSound (s.countTalkgroups unit l).1.interest
      (fun tg => count tg + if tg ∈ (s.countTalkgroups unit l).2 then 1 else 0) := by
  induction l generalizing s count with
  | nil => exact h.congr fun _ => by simp [State.countTalkgroups]
  | cons tg rest ih =>
    rw [List.nodup_cons] at nodup
    obtain ⟨hnew, hnodup⟩ := nodup
    unfold State.countTalkgroups
    split
    next m hm =>
      have hrest := ih (s := { s with interest := m }) (h.increment hm) hnodup
      have hnot : tg ∉ (({ s with interest := m } : State).countTalkgroups unit rest).2 := fun hmem =>
        hnew ((State.countTalkgroups_sublist _ unit rest).subset hmem)
      refine hrest.congr fun u => ?_
      by_cases hu : u = tg
      · simp [hu, countChanged, hnot]
      · simp [hu, countChanged]
    next => exact ih (s := s.raiseAlarm .mapFull unit) h hnodup

/-! ## What leaves the counts as they are -/

/-- Entries rewritten in their places, but for what the counts read of them. -/
theorem MapExact.mapEntries {m t : InterestMap} {count : Nat → Nat} (h : MapExact m count) {f : MapEntry → MapEntry}
    (hf : ∀ e, (f e).talkgroup = e.talkgroup ∧ (f e).count = e.count ∧ (f e).isLeaving = e.isLeaving)
    (places : ∀ k : Place, ∃ g : MapEntry → MapEntry, (g = f ∨ g = id) ∧ t.places[k] = m.places[k].map g)
    (leaving : t.leaving = m.leaving) :
    MapExact t count := by
  have hsome : ∀ (k : Place) (x : MapEntry), t.places[k] = some x → ∃ e, m.places[k] = some e ∧ x.talkgroup = e.talkgroup
      ∧ x.count = e.count ∧ x.isLeaving = e.isLeaving := fun k x hx => by
    obtain ⟨g, hg, hk⟩ := places k
    rw [hk] at hx
    obtain ⟨e, he, rfl⟩ := Option.map_eq_some_iff.mp hx
    rcases hg with rfl | rfl
    · exact ⟨e, he, hf e⟩
    · exact ⟨e, he, rfl, rfl, rfl⟩
  have hback : ∀ (k : Place) (e : MapEntry), m.places[k] = some e → ∃ x, t.places[k] = some x ∧ x.talkgroup = e.talkgroup
      ∧ x.isLeaving = e.isLeaving := fun k e he => by
    obtain ⟨g, hg, hk⟩ := places k
    refine ⟨g e, by rw [hk, he]; rfl, ?_⟩
    rcases hg with rfl | rfl
    · exact ⟨(hf e).1, (hf e).2.2⟩
    · exact ⟨rfl, rfl⟩
  refine ⟨fun i j x y hx hy hxy => ?_, fun k x hx => ?_, fun tg htg => ?_, by rw [leaving]; exact h.leavingNodup, fun k => ?_⟩
  · obtain ⟨d, hd, hdt, -⟩ := hsome i x hx
    obtain ⟨e, he, het, -⟩ := hsome j y hy
    exact h.distinct i j d e hd he (hdt.symm.trans (hxy.trans het))
  · obtain ⟨e, he, htg, hcount, hleaving⟩ := hsome k x hx
    rw [htg, hcount, hleaving]
    exact h.entry k e he
  · obtain ⟨k, e, he, rfl⟩ := h.mapped tg htg
    obtain ⟨x, hx, hxtg, -⟩ := hback k e he
    exact ⟨k, x, hx, hxtg⟩
  · rw [leaving, h.leaving_iff k]
    constructor
    · rintro ⟨e, he, hl⟩
      obtain ⟨x, hx, -, hxl⟩ := hback k e he
      exact ⟨x, hx, hxl.trans hl⟩
    · rintro ⟨x, hx, hl⟩
      obtain ⟨e, he, -, -, hel⟩ := hsome k x hx
      exact ⟨e, he, hel.symm.trans hl⟩

theorem MapSound.expire {m : InterestMap} {count : Nat → Nat} (h : MapSound m count) (tg : Nat) : MapSound (m.expire tg) count := by
  unfold InterestMap.expire
  split
  · exact h
  next k hk =>
    split
    next hl =>
      obtain ⟨e, he, hphase⟩ := (Option.any_eq_true _ _).mp hl
      exact h.remove he hphase
    next => exact h

/-- The head of the owed-leaves list posted: its talkgroup's entry owes no LEAVE any more (R126). -/
theorem MapSound.leavePosted {m : InterestMap} {count : Nat → Nat} (h : MapSound m count) {tg : Nat} {rest : List Nat}
    (howed : m.owedLeaves = tg :: rest) : MapSound (m.leavePosted tg) count := by
  have hplace : ∀ k : Place, (m.leavePosted tg).places[k] =
      m.places[k].map (fun e => if e.talkgroup = tg then { e with leaveOwed := false } else e) := fun k => by
    simp [InterestMap.leavePosted]
  have htail : (m.leavePosted tg).owedLeaves = rest := by
    show m.owedLeaves.tail = rest
    rw [howed]
    rfl
  have hnodup := h.owed.nodup
  rw [howed, List.nodup_cons] at hnodup
  obtain ⟨hnew, hnodup⟩ := hnodup
  have hannounced : (m.leavePosted tg).announcedCount = m.announcedCount := by
    unfold InterestMap.announcedCount InterestMap.leavePosted
    rw [toList_mapTable, List.countP_map]
    refine congrArg (fun p => List.countP p _) (funext fun o => ?_)
    cases o with
    | none => rfl
    | some e => simp only [Function.comp_apply, Option.map_some, Option.any_some]; split <;> rfl
  refine ⟨h.exact.mapEntries (f := fun e => if e.talkgroup = tg then { e with leaveOwed := false } else e) (fun e => ?_)
    (fun k => ⟨_, Or.inl rfl, hplace k⟩) rfl, ⟨by rw [htail]; exact hnodup, ?_, fun k x hx => ?_, fun k x hx ha => ?_⟩⟩
  · split
    · exact ⟨rfl, rfl, rfl⟩
    · exact ⟨rfl, rfl, rfl⟩
  · have hcapacity : m.owedLeaves.length + m.announcedCount ≤ 256 := h.owed.capacity
    rw [howed, List.length_cons] at hcapacity
    have hgoal : (m.leavePosted tg).owedLeaves.length + (m.leavePosted tg).announcedCount ≤ 256 := by
      rw [htail, hannounced]
      omega
    exact hgoal
  · rw [hplace] at hx
    obtain ⟨e, he, rfl⟩ := Option.map_eq_some_iff.mp hx
    have hmarks := h.owed.marks k e he
    rw [howed, List.mem_cons] at hmarks
    rw [htail]
    split
    next htg => simp [htg, hnew]
    next htg => simpa [htg] using hmarks
  · rw [hplace] at hx
    obtain ⟨e, he, rfl⟩ := Option.map_eq_some_iff.mp hx
    have hnot := h.owed.announced k e he
    rw [howed, List.mem_cons, not_or] at hnot
    rw [htail]
    split at ha
    next htg => rw [if_pos htg]; exact (hnot ha).2
    next htg => rw [if_neg htg]; exact (hnot ha).2

/-- With no LEAVE owed, marks may change as long as none says that one is owed. -/
theorem OwedLeavesExact.of_none {m : InterestMap} (owed : m.owedLeaves = [])
    (marks : ∀ (k : Place) (e : MapEntry), m.places[k] = some e → e.leaveOwed = false) : OwedLeavesExact m where
  nodup := by rw [owed]; exact List.nodup_nil
  capacity := by
    have := m.announcedCount_le
    rw [owed]
    exact (Nat.zero_add _).trans_le this
  marks k e he := by rw [owed, marks k e he]; exact ⟨nofun, nofun⟩
  announced k e he _ := by rw [owed]; exact List.not_mem_nil

/-- The JOIN of a place posted, with no LEAVE owed (R127, R146). -/
theorem MapSound.markAnnounced {m : InterestMap} {count : Nat → Nat} (h : MapSound m count) (owed : m.owedLeaves = []) (k : Place) :
    MapSound (m.markAnnounced k) count := by
  have hplace : ∀ j : Place, ∃ g : MapEntry → MapEntry, (g = (fun e => { e with announced := true }) ∨ g = id)
      ∧ (m.markAnnounced k).places[j] = m.places[j].map g := fun j => by
    have hj := getElem_set_fin m.places k j (m.places[k].map (fun e => { e with announced := true }))
    by_cases hjk : j = k
    · exact ⟨_, Or.inl rfl, by rw [hjk] at hj ⊢; exact hj.trans (if_pos rfl)⟩
    · exact ⟨id, Or.inr rfl, by rw [Option.map_id_fun]; exact hj.trans (if_neg hjk)⟩
  refine ⟨h.exact.mapEntries (f := fun e => { e with announced := true }) (fun _ => ⟨rfl, rfl, rfl⟩) hplace rfl,
    .of_none owed fun j x hx => ?_⟩
  obtain ⟨g, hg, hj⟩ := hplace j
  rw [hj] at hx
  obtain ⟨e, he, rfl⟩ := Option.map_eq_some_iff.mp hx
  have hmark := h.owed.marks j e he
  rw [owed] at hmark
  have hfalse : e.leaveOwed = false := by simpa using hmark
  rcases hg with rfl | rfl <;> exact hfalse

theorem MapSound.closed {m : InterestMap} {count : Nat → Nat} (h : MapSound m count) : MapSound m.closed count := by
  have hplace : ∀ k : Place, m.closed.places[k] = m.places[k].map (fun e => { e with leaveOwed := false }) := fun k => by
    simp [InterestMap.closed]
  refine ⟨h.exact.mapEntries (f := fun e => { e with leaveOwed := false }) (fun _ => ⟨rfl, rfl, rfl⟩)
    (fun k => ⟨_, Or.inl rfl, hplace k⟩) rfl, .of_none rfl fun k x hx => ?_⟩
  rw [hplace] at hx
  obtain ⟨e, -, rfl⟩ := Option.map_eq_some_iff.mp hx
  rfl

theorem MapSound.opened {m : InterestMap} {count : Nat → Nat} (h : MapSound m count) : MapSound m.opened count := by
  have hplace : ∀ k : Place, m.opened.places[k] = m.places[k].map (fun e => { e with announced := false }) := fun k => by
    simp [InterestMap.opened]
  refine ⟨h.exact.mapEntries (f := fun e => { e with announced := false }) (fun _ => ⟨rfl, rfl, rfl⟩)
    (fun k => ⟨_, Or.inl rfl, hplace k⟩) rfl, ⟨h.owed.nodup, ?_, fun k x hx => ?_, fun k x hx ha => ?_⟩⟩
  · have hnone : m.opened.places.toList.countP (fun o => o.any MapEntry.announced) = 0 := by
      rw [List.countP_eq_zero]
      intro o ho
      have ho : o ∈ m.places.toList.map (Option.map (fun e => { e with announced := false })) := by
        simpa only [InterestMap.opened, toList_mapTable] using ho
      obtain ⟨q, -, rfl⟩ := List.mem_map.mp ho
      cases q <;> simp
    have hcapacity := h.owed.capacity
    show m.owedLeaves.length + m.opened.places.toList.countP (fun o => o.any MapEntry.announced) ≤ 256
    omega
  · rw [hplace] at hx
    obtain ⟨e, he, rfl⟩ := Option.map_eq_some_iff.mp hx
    exact h.owed.marks k e he
  · rw [hplace] at hx
    obtain ⟨e, he, rfl⟩ := Option.map_eq_some_iff.mp hx
    cases ha

theorem MapSound.reset : MapSound .reset (fun _ => 0) := by
  have hplace : ∀ k : Place, InterestMap.reset.places[k] = none := fun k => by simp [InterestMap.reset]
  refine ⟨⟨fun i j x y hx => ?_, fun k x hx => ?_, fun tg htg => absurd htg (lt_irrefl 0), List.nodup_nil, fun k => ?_⟩,
    .of_none rfl fun k x hx => ?_⟩
  · rw [hplace] at hx
    cases hx
  · rw [hplace] at hx
    cases hx
  · rw [hplace]
    exact ⟨nofun, nofun⟩
  · rw [hplace] at hx
    cases hx

/-- Leave timers moved on leave the counts and the marks as they are. -/
theorem MapSound.advance {m : InterestMap} {count : Nat → Nat} (h : MapSound m count) :
    MapSound { m with places := mapTable (Option.map MapEntry.advance) m.places } count := by
  have hadvance : ∀ e : MapEntry, e.advance.talkgroup = e.talkgroup ∧ e.advance.count = e.count ∧ e.advance.isLeaving = e.isLeaving
      ∧ e.advance.announced = e.announced ∧ e.advance.leaveOwed = e.leaveOwed := fun e => by
    unfold MapEntry.advance
    split
    next => exact ⟨rfl, rfl, rfl, rfl, rfl⟩
    next hphase => exact ⟨rfl, rfl, by simp [MapEntry.isLeaving, hphase], rfl, rfl⟩
  have hplace : ∀ k : Place, (mapTable (Option.map MapEntry.advance) m.places)[k] = m.places[k].map MapEntry.advance := fun k => by simp
  refine ⟨h.exact.mapEntries (f := MapEntry.advance) (fun e => ⟨(hadvance e).1, (hadvance e).2.1, (hadvance e).2.2.1⟩)
    (fun k => ⟨_, Or.inl rfl, hplace k⟩) rfl, ⟨h.owed.nodup, ?_, fun k x hx => ?_, fun k x hx ha => ?_⟩⟩
  · have hcount : (mapTable (Option.map MapEntry.advance) m.places).toList.countP (fun o => o.any MapEntry.announced) =
      m.announcedCount := by
      rw [toList_mapTable, List.countP_map]
      refine congrArg (fun p => List.countP p _) (funext fun o => ?_)
      cases o with
      | none => rfl
      | some e => exact (hadvance e).2.2.2.1
    show m.owedLeaves.length + _ ≤ 256
    rw [hcount]
    exact h.owed.capacity
  · have hx : m.places[k].map MapEntry.advance = some x := (hplace k).symm.trans hx
    obtain ⟨e, he, rfl⟩ := Option.map_eq_some_iff.mp hx
    rw [(hadvance e).2.2.2.2, (hadvance e).1]
    exact h.owed.marks k e he
  · have hx : m.places[k].map MapEntry.advance = some x := (hplace k).symm.trans hx
    obtain ⟨e, he, rfl⟩ := Option.map_eq_some_iff.mp hx
    rw [(hadvance e).1]
    exact h.owed.announced k e he ((hadvance e).2.2.2.1 ▸ ha)

end Sys2Proof.Machine
end

section
/-! PROOF. What every step keeps of the records' fields, the member counts and the island (R2, R3, R113, R119, R141): the facts, and what
leaves them as they are. -/

namespace Sys2Proof.Machine

/-! ## Records -/

/-- The fields that a record has by its state and that no list tells, and its talkgroups distinct (R2, R3). -/
structure Record.Whole (r : Record) : Prop where
  serving : r.serving.isSome = true ↔ r.state ≠ .expected
  home : r.state ≠ .expected → r.home.isSome = true
  origin : r.origin.isSome = true ↔ r.state = .expected
  noneLate : r.state ≠ .transit → r.noneLate
  talkgroups : r.talkgroups.Nodup

/-- The fields of every record are the ones of its state exactly when the lists do not tell otherwise and the record is whole (R3). -/
theorem ListsExact.fieldsByState_iff {s : State} (h : ListsExact s) :
    (FieldsByState s ∧ ∀ (i : Index) (r : Record), s.record? i = some r → r.talkgroups.Nodup) ↔
      ∀ (i : Index) (r : Record), s.record? i = some r → r.Whole := by
  constructor
  · rintro ⟨fields, talkgroups⟩ i r hr
    have hf := fields i r hr
    have hnodup := talkgroups i r hr
    unfold Record.fieldsByState at hf
    split at hf
    next hstate =>
      obtain ⟨hserving, -, -, -, horigin, hlate⟩ := hf
      exact ⟨by simp [hserving, hstate], fun hn => absurd hstate hn, by simp [horigin, hstate], fun _ => hlate, hnodup⟩
    next hstate =>
      obtain ⟨hserving, hhome, -, -, horigin, hlate⟩ := hf
      exact ⟨by simp [hserving, hstate], fun _ => hhome, by simp [horigin, hstate], fun _ => hlate, hnodup⟩
    next hstate =>
      obtain ⟨hserving, hhome, -, -, -, horigin⟩ := hf
      exact ⟨by simp [hserving, hstate], fun _ => hhome, by simp [horigin, hstate], fun hn => absurd hstate hn, hnodup⟩
    next hstate =>
      obtain ⟨hserving, hhome, -, -, -, horigin, hlate⟩ := hf
      exact ⟨by simp [hserving, hstate], fun _ => hhome, by simp [horigin, hstate], fun _ => hlate, hnodup⟩
  · refine fun whole => ⟨fun i r hr => ?_, fun i r hr => (whole i r hr).talkgroups⟩
    obtain ⟨hserving, hhome, horigin, hlate, -⟩ := whole i r hr
    have hslot := h.slots.transit i r hr
    unfold Record.fieldsByState
    split
    next hstate =>
      obtain ⟨hqueued, htarget⟩ := h.queues.unqueued hr (by simp [hstate])
      exact ⟨by simpa [hstate] using hserving, hqueued, htarget, by simpa [hstate] using hslot, horigin.mpr hstate,
        hlate (by simp [hstate])⟩
    next hstate =>
      obtain ⟨-, htarget⟩ := h.queues.queued i r hr
      exact ⟨by simpa [hstate] using hserving, hhome (by simp [hstate]), htarget, by simpa [hstate] using hslot,
        by simpa [hstate] using horigin, hlate (by simp [hstate])⟩
    next hstate =>
      obtain ⟨hqueued, htarget⟩ := h.queues.unqueued hr (by simp [hstate])
      exact ⟨by simpa [hstate] using hserving, hhome (by simp [hstate]), hqueued, htarget,
        hslot.mpr hstate, by simpa [hstate] using horigin⟩
    next hstate =>
      obtain ⟨hqueued, htarget⟩ := h.queues.unqueued hr (by simp [hstate])
      exact ⟨by simpa [hstate] using hserving, hhome (by simp [hstate]), hqueued, htarget, by simpa [hstate] using hslot,
        by simpa [hstate] using horigin, hlate (by simp [hstate])⟩

/-! ## Member counts -/

/-- Whether what stands at an index is counted as a member of a talkgroup (R119). -/
def memberOf (o : Option Record) (tg : Nat) : Bool := o.any (fun r => r.countedList.contains tg)

theorem memberOf_some (r : Record) (tg : Nat) : memberOf (some r) tg = true ↔ tg ∈ r.countedList := by simp [memberOf]

theorem Record.mem_countedList {r : Record} {tg : Nat} : tg ∈ r.countedList ↔ r.counted = true ∧ tg ∈ r.talkgroups := by
  unfold Record.countedList
  split <;> simp_all

theorem memberOf_eq (o : Option Record) (tg : Nat) : o.any (fun x => x.counted && x.talkgroups.contains tg) = memberOf o tg := by
  cases o with
  | none => rfl
  | some r =>
    unfold memberOf Record.countedList
    cases r.counted <;> simp

theorem State.members_eq (s : State) (tg : Nat) : s.members tg = s.visitors.records.toList.countP (fun o => memberOf o tg) := by
  unfold State.members
  simp only [memberOf_eq]

/-- One index written, a member count changes by what stood there and stands there (R119). -/
theorem State.members_set {s t : State} {i : Index} {o : Option Record} (records : t.visitors.records = s.visitors.records.set i o)
    (tg : Nat) : t.members tg + (if memberOf (s.record? i) tg then 1 else 0) = s.members tg + (if memberOf o tg then 1 else 0) := by
  rw [State.members_eq, State.members_eq, records]
  exact countP_toList_set s.visitors.records i o _

theorem State.members_congr {s t : State}
    (same : ∀ i : Index, (t.record? i).map Record.countedList = (s.record? i).map Record.countedList) (tg : Nat) :
    t.members tg = s.members tg := by
  have hmap : ∀ o : Option Record, memberOf o tg = (o.map Record.countedList).any (fun l => l.contains tg) := fun o => by
    cases o <;> rfl
  rw [State.members_eq, State.members_eq, toList_eq_map_finRange, toList_eq_map_finRange, List.countP_map, List.countP_map]
  refine congrArg (fun p => List.countP p _) (funext fun i => ?_)
  simp only [Function.comp_apply, hmap]
  exact congrArg _ (same i)

/-- A counted record is one of the members of each of its talkgroups (R119). -/
theorem State.members_pos {s : State} {i : Index} {r : Record} (hr : s.record? i = some r) {tg : Nat} (h : tg ∈ r.countedList) :
    0 < s.members tg := by
  rw [State.members_eq, List.countP_pos_iff]
  refine ⟨some r, ?_, (memberOf_some r tg).mpr h⟩
  rw [← hr]
  exact Vector.mem_toList_iff.mpr (Vector.getElem_mem _)

theorem State.members_pos_iff {s : State} {tg : Nat} : 0 < s.members tg ↔ ∃ i r, s.record? i = some r ∧ tg ∈ r.countedList := by
  refine ⟨fun h => ?_, fun ⟨i, r, hr, htg⟩ => State.members_pos hr htg⟩
  rw [State.members_eq, List.countP_pos_iff, toList_eq_map_finRange] at h
  obtain ⟨o, ho, hm⟩ := h
  obtain ⟨i, -, rfl⟩ := List.mem_map.mp ho
  obtain ⟨r, hr, htg⟩ := (Option.any_eq_true _ _).mp hm
  exact ⟨i, r, hr, by simpa using htg⟩

theorem interestExact_iff (s : State) : InterestExact s ↔ MapExact s.interest s.members := by
  constructor
  · intro h
    refine ⟨h.distinct, h.count, fun tg htg => ?_, h.leavingNodup, fun k => ?_⟩
    · obtain ⟨i, r, hr, hmem⟩ := State.members_pos_iff.mp htg
      obtain ⟨hcounted, hmem⟩ := Record.mem_countedList.mp hmem
      obtain ⟨k, hk⟩ := Option.isSome_iff_exists.mp (h.mapped i r hr hcounted tg hmem)
      obtain ⟨he, -⟩ := InterestMap.place?_eq_some.mp hk
      exact ⟨k, he⟩
    · rw [h.leaving_iff k, Option.any_eq_true]
  · intro h
    refine ⟨h.distinct, h.entry, fun i r hr hcounted tg htg => ?_, h.leavingNodup, fun k => ?_⟩
    · obtain ⟨k, e, he, hetg⟩ := h.mapped tg (State.members_pos hr (Record.mem_countedList.mpr ⟨hcounted, htg⟩))
      rw [Option.isSome_iff_ne_none]
      exact fun hn => InterestMap.place?_eq_none.mp hn k e he hetg
    · rw [h.leaving_iff k, Option.any_eq_true]

/-! ## The island -/

/-- What a CLOSED link port leaves no room for (R113, R141, R142). -/
structure Isolated (s : State) : Prop where
  queue : s.ports.link.queue = []
  refreshOwed : s.ports.link.refreshOwed = false
  neighbours : ∀ (k : Fin 12) (n : Neighbour), s.neighbours[k] = some n → n.link = .down
  noneAsked : ∀ k : Fin 8, s.phase? k ≠ some .asked
  noneQueued : ∀ (i : Index) (r : Record), s.record? i = some r → r.queued = false

theorem ClassQueuesExact.islandSound_iff {s : State} (h : ClassQueuesExact s) :
    IslandSound s ↔ (s.ports.link.isOpen = false → Isolated s) := by
  constructor
  · intro island closed
    obtain ⟨hqueue, howed⟩ := island.queue closed
    exact ⟨hqueue, howed, island.neighbours closed, island.noneAsked closed, (island.noneQueued closed).2⟩
  · intro island
    refine ⟨fun closed => ⟨(island closed).queue, (island closed).refreshOwed⟩, fun closed => (island closed).neighbours,
      fun closed => (island closed).noneAsked, fun closed => ⟨fun c => ?_, (island closed).noneQueued⟩⟩
    refine List.eq_nil_iff_forall_not_mem.mpr fun i hi => ?_
    obtain ⟨r, hr, hq⟩ := (Option.any_eq_true _ _).mp ((h.mem_iff c i).mp hi)
    simp [(island closed).noneQueued i r hr] at hq

/-! ## What a change leaves as it is -/

/-- The records are whole, the interest map has their members counted, and a CLOSED link port leaves an island (R3, R119, R141). -/
structure ContentSound (s : State) : Prop where
  records : ∀ (i : Index) (r : Record), s.record? i = some r → r.Whole
  interest : MapSound s.interest s.members
  island : s.ports.link.isOpen = false → Isolated s

theorem engineSound_iff (s : State) :
    EngineSound s ↔ (TableSound s.visitors ∧ SweepExact s) ∧ ListsExact s ∧ ContentSound s := by
  constructor
  · intro h
    have lists : ListsExact s := ⟨h.slots, h.classQueues, h.claims⟩
    exact ⟨⟨h.table, h.sweep⟩, lists, lists.fieldsByState_iff.mp ⟨h.fields, h.talkgroups⟩,
      ⟨(interestExact_iff s).mp h.interest, h.owedLeaves⟩, lists.queues.islandSound_iff.mp h.island⟩
  · rintro ⟨⟨table, sweep⟩, lists, content⟩
    obtain ⟨fields, talkgroups⟩ := lists.fieldsByState_iff.mpr content.records
    exact {
      table := table
      sweep := sweep
      slots := lists.slots
      classQueues := lists.queues
      claims := lists.claims
      fields := fields
      talkgroups := talkgroups
      interest := (interestExact_iff s).mpr content.interest.exact
      owedLeaves := content.interest.owed
      island := lists.queues.islandSound_iff.mpr content.island }

/-- A record follows another: with its counted talkgroups, whole if it was, and queued only if it was. -/
structure Record.Follows (r q : Record) : Prop where
  counted : q.countedList = r.countedList
  whole : r.Whole → q.Whole
  queued : q.queued = true → r.queued = true

theorem Record.Follows.refl (r : Record) : r.Follows r := ⟨rfl, id, id⟩

theorem Record.Follows.trans {a b c : Record} (h : a.Follows b) (g : b.Follows c) : a.Follows c :=
  ⟨g.counted.trans h.counted, fun hw => g.whole (h.whole hw), fun hq => h.queued (g.queued hq)⟩

/-- What leaves the facts of a state as they are. -/
structure ContentKept (s t : State) : Prop where
  record : ∀ (i : Index) (q : Record), t.record? i = some q → ∃ r, s.record? i = some r ∧ r.Follows q
  vacant : ∀ i : Index, t.record? i = none → s.record? i = none
  interest : t.interest = s.interest
  isOpen : t.ports.link.isOpen = s.ports.link.isOpen
  queue : s.ports.link.isOpen = false → s.ports.link.queue = [] → t.ports.link.queue = []
  refreshOwed : s.ports.link.refreshOwed = false → t.ports.link.refreshOwed = false
  neighbours : s.ports.link.isOpen = false → (∀ (k : Fin 12) (n : Neighbour), s.neighbours[k] = some n → n.link = .down) →
    ∀ (k : Fin 12) (n : Neighbour), t.neighbours[k] = some n → n.link = .down
  asked : ∀ k : Fin 8, t.phase? k = some .asked → s.phase? k = some .asked

theorem ContentKept.trans {a b c : State} (h : ContentKept a b) (g : ContentKept b c) : ContentKept a c where
  record i q hq := by
    obtain ⟨r, hr, hrq⟩ := g.record i q hq
    obtain ⟨x, hx, hxr⟩ := h.record i r hr
    exact ⟨x, hx, hxr.trans hrq⟩
  vacant i hi := h.vacant i (g.vacant i hi)
  interest := g.interest.trans h.interest
  isOpen := g.isOpen.trans h.isOpen
  queue hs hq := g.queue (h.isOpen.trans hs) (h.queue hs hq)
  refreshOwed hs := g.refreshOwed (h.refreshOwed hs)
  neighbours hs hn := g.neighbours (h.isOpen.trans hs) (h.neighbours hs hn)
  asked k hk := h.asked k (g.asked k hk)

/-- A change of blocks that leaves the ones the facts read. -/
theorem ContentKept.of_eq {s t : State} (records : t.visitors.records = s.visitors.records) (interest : t.interest = s.interest)
    (link : t.ports.link.isOpen = s.ports.link.isOpen ∧ t.ports.link.queue = s.ports.link.queue
      ∧ t.ports.link.refreshOwed = s.ports.link.refreshOwed)
    (neighbours : t.neighbours = s.neighbours) (asked : ∀ k : Fin 8, t.phase? k = some .asked → s.phase? k = some .asked) :
    ContentKept s t where
  record i q hq := ⟨q, by rwa [State.record?_congr records] at hq, .refl q⟩
  vacant i hi := by rwa [State.record?_congr records] at hi
  interest := interest
  isOpen := link.1
  queue _ hq := link.2.1.trans hq
  refreshOwed hs := link.2.2.trans hs
  neighbours _ hn := by rw [neighbours]; exact hn
  asked := asked

theorem ContentKept.refl (s : State) : ContentKept s s := .of_eq rfl rfl ⟨rfl, rfl, rfl⟩ rfl fun _ => id

theorem ContentKept.modifyRecord (s : State) (i : Index) {f : Record → Record} (hf : ∀ r, s.record? i = some r → r.Follows (f r)) :
    ContentKept s (s.modifyRecord i f) where
  record j q hq := by
    rw [State.record?_modifyRecord] at hq
    split at hq
    next hj =>
      subst hj
      obtain ⟨r, hr, rfl⟩ := Option.map_eq_some_iff.mp hq
      exact ⟨r, hr, hf r hr⟩
    next => exact ⟨q, hq, .refl q⟩
  vacant j hj := by
    rw [State.record?_modifyRecord] at hj
    split at hj
    next h => exact h ▸ Option.map_eq_none_iff.mp hj
    next => exact hj
  interest := rfl
  isOpen := rfl
  queue _ := id
  refreshOwed := id
  neighbours _ := id
  asked _ := id

theorem ContentKept.mapRecords (s : State) {f : Record → Record} (hf : ∀ r : Record, r.Follows (f r)) : ContentKept s (s.mapRecords f) where
  record j q hq := by
    rw [State.record?_mapRecords] at hq
    obtain ⟨r, hr, rfl⟩ := Option.map_eq_some_iff.mp hq
    exact ⟨r, hr, hf r⟩
  vacant j hj := by
    rw [State.record?_mapRecords] at hj
    exact Option.map_eq_none_iff.mp hj
  interest := rfl
  isOpen := rfl
  queue _ := id
  refreshOwed := id
  neighbours _ := id
  asked _ := id

theorem ContentKept.members {s t : State} (h : ContentKept s t) (tg : Nat) : t.members tg = s.members tg := by
  refine State.members_congr (fun i => ?_) tg
  cases hq : t.record? i with
  | none => rw [h.vacant i hq]
  | some q =>
    obtain ⟨r, hr, hrq⟩ := h.record i q hq
    rw [hr, Option.map_some, Option.map_some, hrq.counted]

theorem ContentKept.isolated {s t : State} (h : ContentKept s t) (closed : s.ports.link.isOpen = false) (hs : Isolated s) : Isolated t where
  queue := h.queue closed hs.queue
  refreshOwed := h.refreshOwed hs.refreshOwed
  neighbours := h.neighbours closed hs.neighbours
  noneAsked k hk := hs.noneAsked k (h.asked k hk)
  noneQueued i q hq := by
    obtain ⟨r, hr, hrq⟩ := h.record i q hq
    have hn := hs.noneQueued i r hr
    cases hqq : q.queued with
    | false => rfl
    | true => rw [hrq.queued hqq] at hn; cases hn

theorem ContentSound.kept {s t : State} (hs : ContentSound s) (h : ContentKept s t) : ContentSound t where
  records i q hq := by
    obtain ⟨r, hr, hrq⟩ := h.record i q hq
    exact hrq.whole (hs.records i r hr)
  interest := by rw [h.interest]; exact hs.interest.congr h.members
  island hclosed := by
    have closed := h.isOpen.symm.trans hclosed
    exact h.isolated closed (hs.island closed)

/-! ## One record -/

/-- What the facts read of a record's fields, but for its entries. -/
def Record.fieldMark (r : Record) : RecordState × Option (Fin 4) × Option Nat × Option Nat × List Nat :=
  (r.state, r.serving, r.home, r.origin, r.talkgroups)

theorem Record.Follows.of_entries {r q : Record} (mark : q.fieldMark = r.fieldMark)
    (late : r.state ≠ .transit → r.noneLate → q.noneLate) (queued : q.queued = true → r.queued = true) : r.Follows q := by
  simp only [Record.fieldMark, Prod.mk.injEq] at mark
  obtain ⟨hstate, hserving, hhome, horigin, htalkgroups⟩ := mark
  have hcounted : q.countedList = r.countedList := by unfold Record.countedList Record.counted; rw [hstate, htalkgroups]
  refine ⟨hcounted, fun h => ⟨?_, ?_, ?_, ?_, ?_⟩, queued⟩
  · rw [hserving, hstate]; exact h.serving
  · rw [hhome, hstate]; exact h.home
  · rw [horigin, hstate]; exact h.origin
  · intro hn
    rw [hstate] at hn
    exact late hn (h.noneLate hn)
  · rw [htalkgroups]; exact h.talkgroups

theorem Record.Follows.same {r q : Record} (mark : q.fieldMark = r.fieldMark) (entries : q.neighbours = r.neighbours)
    (queued : q.queued = true → r.queued = true) : r.Follows q :=
  .of_entries mark (fun _ h e he => h e (entries ▸ he)) queued

/-- Entries taken from the ones before, and changed in what is not their late mark (R81, R85, R137). -/
theorem Record.Follows.withEntries (r : Record) {l : List NeighbourEntry} (late : ∀ e ∈ l, ∃ d ∈ r.neighbours, e.late = d.late) :
    r.Follows { r with neighbours := l } := by
  refine .of_entries rfl (fun _ h e he => ?_) id
  obtain ⟨d, hd, hed⟩ := late e he
  exact hed.trans (h d hd)

theorem Record.Follows.unqueued (r : Record) : r.Follows r.unqueued := .same rfl rfl nofun

theorem Record.Follows.agedEntries (r : Record) (life : Nat) : r.Follows (r.agedEntries life) := by
  refine .withEntries r fun e he => ?_
  obtain ⟨d, hd, hsome⟩ := List.mem_filterMap.mp he
  refine ⟨d, hd, ?_⟩
  unfold NeighbourEntry.aged at hsome
  dsimp only at hsome
  split at hsome
  · cases hsome
  · cases hsome
    rfl

theorem Record.Follows.recounted (r : Record) (winner : Option Nat) : r.Follows (r.recounted winner) := by
  refine .withEntries r fun e he => ?_
  obtain ⟨d, hd, rfl⟩ := List.mem_map.mp he
  exact ⟨d, hd, rfl⟩

/-- A transaction that ends by failure leaves its record whole, and no entry late (R108). -/
theorem Record.Follows.afterFailure {r : Record} (state : r.state = .transit) (target : Nat) (cooldown : Option Nat) :
    r.Follows (r.afterFailure target cooldown) where
  counted := by simp [Record.countedList, Record.counted, Record.afterFailure, state]
  whole h := by
    obtain ⟨hserving, hhome, horigin, -, htalkgroups⟩ := h
    simp only [state] at hserving hhome horigin
    refine ⟨by simpa [Record.afterFailure] using hserving, fun _ => hhome (by simp), by simpa [Record.afterFailure] using horigin,
      fun _ e he => ?_, htalkgroups⟩
    obtain ⟨d, -, rfl⟩ := List.mem_map.mp he
    rfl
  queued := id

/-- A radio's UPLINK estimate (R38). -/
theorem Record.Follows.withHome (r : Record) (n : Nat) : r.Follows { r with home := some n } where
  counted := rfl
  whole h := ⟨h.serving, fun _ => rfl, h.origin, h.noneLate, h.talkgroups⟩
  queued := id

/-- A routed DOWNLINK sample makes no late entry while the record has no transaction (R42). -/
theorem Record.Follows.routed {r : Record} {site : Nat} {c : Scored} {late : Bool} {t : Routed}
    (routed : routeDownlink r.neighbours site c late = some t) (slotless : r.state ≠ .transit → late = false) :
    r.Follows { r with neighbours := t.entries } := by
  refine .of_entries rfl (fun hstate h e he => ?_) id
  have hfresh : (NeighbourEntry.fresh site c.sample late).late = false := slotless hstate
  unfold routeDownlink at routed
  split at routed
  · cases routed
    obtain ⟨d, hd, rfl⟩ := List.mem_map.mp he
    split
    · exact h d hd
    · exact h d hd
  · split at routed
    · cases routed
      rcases List.mem_append.mp he with he | he
      · exact h e he
      · rw [List.mem_singleton.mp he]
        exact hfresh
    · split at routed
      · cases routed
      · split at routed
        · cases routed
          obtain ⟨d, hd, rfl⟩ := List.mem_map.mp he
          split
          · exact hfresh
          · exact h d hd
        · cases routed

theorem requestedList_nodup (ids : List Nat) : (requestedList ids).Nodup := by
  unfold requestedList
  generalize (ids.take 4).filter talkgroupInRange = l
  induction l with
  | nil => exact List.nodup_nil
  | cons a l ih => exact List.nodup_cons.mpr ⟨by simp, ih.filter _⟩

/-- A record asked for again is EXPECTED from the site that asks (R114, R116, R117). -/
theorem Record.asked_whole {r : Record} (late : r.noneLate) (f : AskFields) : (r.asked f).Whole where
  serving := by simp [Record.asked]
  home hn := absurd rfl hn
  origin := by simp [Record.asked]
  noneLate _ := late
  talkgroups := requestedList_nodup f.talkgroups

/-! ## Slots and the link queue -/

theorem ContentKept.withSlots (s : State) {u : HandoverUnit}
    (asked : ∀ k : Fin 8, u.slots[k].transaction.map Transaction.phase = some .asked →
      s.handover.slots[k].transaction.map Transaction.phase = some .asked) : ContentKept s { s with handover := u } :=
  .of_eq rfl rfl ⟨rfl, rfl, rfl⟩ rfl asked

/-- A notice posted while the port is OPEN, or dropped (R147). -/
theorem ContentKept.withLinkQueue (s : State) (l : List QueuedNotice)
    (closed : s.ports.link.isOpen = false → s.ports.link.queue = [] → l = []) :
    ContentKept s (s.modifyLink (fun p => { p with queue := l })) where
  record _ q hq := ⟨q, hq, .refl q⟩
  vacant _ hi := hi
  interest := rfl
  isOpen := rfl
  queue := closed
  refreshOwed := id
  neighbours _ := id
  asked _ := id

theorem ContentKept.offered (s : State) (n : LinkNotice) : ContentKept s (s.offered n) := by
  unfold State.offered
  split
  next room => exact .withLinkQueue s _ fun closed _ => by rw [room.1] at closed; cases closed
  next => exact .refl s

theorem ContentKept.offerCancel (s : State) (k : Fin 8) : ContentKept s (s.offerCancel k).1 := by
  unfold State.offerCancel
  split
  · exact .refl s
  · dsimp only
    rw [State.offer_eq]
    exact .offered s _

theorem ContentKept.failTransaction {s : State} (h : ListsExact s) (k : Fin 8) (cooldown : Bool) :
    ContentKept s (s.failTransaction k cooldown) := by
  cases hx : s.handover.slots[k].transaction with
  | none => rw [State.failTransaction_free hx]; exact .refl s
  | some x =>
    rw [State.failTransaction_eq hx]
    generalize (if cooldown = true then some s.selected.refusalCooldown else none) = cool
    obtain ⟨r, hr, -, hstate⟩ := h.slots.record_of hx
    refine (ContentKept.modifyRecord s x.record (f := fun r => r.afterFailure x.target cool) fun q hq => ?_).trans
      (.withSlots _ fun j hj => ?_)
    · rw [hr] at hq
      cases hq
      exact .afterFailure hstate x.target cool
    · rw [getElem_set_fin] at hj
      split at hj
      · cases hj
      · exact hj

theorem ContentKept.failWithCancel {s : State} (h : ListsExact s) (k : Fin 8) (cooldown : Bool) :
    ContentKept s (s.failWithCancel k cooldown).1 := by
  have hcancel : ListsKept s (s.offerCancel k).1 := by
    rw [State.offerCancel_frame]
    exact .of_eq rfl rfl rfl
  exact (ContentKept.offerCancel s k).trans (.failTransaction (hcancel.exact h) k cooldown)

theorem ContentKept.setTransaction (s : State) (k : Fin 8) {x : Transaction} (phase : x.phase ≠ .asked) :
    ContentKept s { s with handover := s.handover.setTransaction k x } := by
  refine .withSlots s fun j hj => ?_
  simp only [HandoverUnit.setTransaction, getElem_set_fin] at hj
  split at hj
  · exact absurd (Option.some.inj hj) phase
  · exact hj

theorem ContentKept.moveAttempt {s : State} (h : ListsExact s) (k : Fin 8) : ContentKept s (s.moveAttempt k).1 := by
  unfold State.moveAttempt
  split
  · exact .refl s
  · split
    · exact .refl s
    · split
      · exact .failWithCancel h k true
      · split
        · exact .failWithCancel h k true
        · split
          · exact .setTransaction s k (by simp)
          · split
            · exact .setTransaction s k (by simp)
            next =>
              have hpost : ∀ c n, ContentKept s (s.postChannel c n) := fun _ _ => .of_eq rfl rfl ⟨rfl, rfl, rfl⟩ rfl fun _ => id
              exact (hpost _ _).trans (.setTransaction _ k nofun)

/-- The failure of all that a test names keeps the facts, and the lists on the way (R112). -/
theorem ContentKept.failAsked {s : State} (h : ListsExact s) (test : Nat → Bool) (cooldown : Bool) :
    ContentKept s (s.failAsked test cooldown) :=
  (State.failAsked_induction (P := fun u => ListsExact u ∧ ContentKept s u)
    (fun _ k hu => ⟨hu.1.failTransaction k cooldown, hu.2.trans (.failTransaction hu.1 k cooldown)⟩) s test ⟨h, .refl s⟩).2

theorem ContentKept.withdrawTargets (s : State) (test : Nat → Bool) : ContentKept s (s.withdrawTargets test) := by
  unfold State.withdrawTargets
  refine (ContentKept.mapRecords s fun r => ?_).trans (.withSlots _ fun _ => id)
  split
  · exact .unqueued r
  · exact .refl r

/-! ## The table of neighbours -/

theorem ContentKept.setNeighbourSlot (s : State) (k : Fin 12) (o : Option Neighbour)
    (down : s.ports.link.isOpen = false → (∀ n, s.neighbours[k] = some n → n.link = .down) → ∀ n, o = some n → n.link = .down) :
    ContentKept s (s.setNeighbourSlot k o) where
  record i q hq := ⟨q, hq, .refl q⟩
  vacant _ hi := hi
  interest := rfl
  isOpen := rfl
  queue _ := id
  refreshOwed := id
  neighbours closed hs j n hn := by
    have hslot : (s.setNeighbourSlot k o).neighbours[j] = if j = k then o else s.neighbours[j] := getElem_set_fin s.neighbours k j o
    rw [hslot] at hn
    split at hn
    · exact down closed (hs k) n hn
    · exact hs j n hn
  asked _ := id

theorem neighbourAfter_down {old : Option Neighbour} {site : Nat} {bias : Int} (h : ∀ n, old = some n → n.link = .down) {n : Neighbour}
    (hn : neighbourAfter old site bias = some n) : n.link = .down := by
  unfold neighbourAfter at hn
  split at hn
  · cases hn
  · split at hn
    · cases hn
      rfl
    next m =>
      split at hn
      · cases hn
        exact h m rfl
      · cases hn
        rfl

theorem ContentKept.removeSite {s : State} (h : ListsExact s) (site : Nat) : ContentKept s (s.removeSite site) := by
  have hlists : ListsKept s (s.mapRecords (fun r => { r with neighbours := r.neighbours.filter (fun e => e.site != site) })) :=
    .mapRecords s fun _ => rfl
  have hentries : ContentKept s (s.mapRecords (fun r => { r with neighbours := r.neighbours.filter (fun e => e.site != site) })) :=
    .mapRecords s fun r => .withEntries r fun e he => ⟨e, (List.mem_filter.mp he).1, rfl⟩
  exact (hentries.trans (.withdrawTargets _ _)).trans (.failAsked ((hlists.exact h).withdrawTargets _) _ _)

theorem ContentKept.raiseAlarm (s : State) (key : AlarmKey) (detail : Nat) : ContentKept s (s.raiseAlarm key detail) :=
  .of_eq rfl rfl ⟨rfl, rfl, rfl⟩ rfl fun _ => id

theorem ContentKept.neighbourDown {s : State} (h : ListsExact s) (site : Nat) : ContentKept s (s.neighbourDown site) := by
  have hcleared := (ContentKept.failAsked h (fun t => t == site) true).trans (.withdrawTargets _ (fun t => t == site))
  unfold State.neighbourDown
  exact hcleared.trans (.raiseAlarm _ _ _)

end Sys2Proof.Machine
end

section
/-! PROOF. The transactions ASKED of a site ended and the records queued for it withdrawn (R112, R137, R139, R141), said once. -/

namespace Sys2Proof.Machine

/-! ## Transactions that end together -/

/-- The ASKED transactions of some slots ended, of those whose target the test names (R112). -/
def State.failAskedOf (s : State) (slots : List (Fin 8)) (test : Nat → Bool) (cooldown : Bool) : State :=
  slots.foldl (fun s k => if s.asked test k then s.failTransaction k cooldown else s) s

theorem State.failAsked_eq (s : State) (test : Nat → Bool) (cooldown : Bool) :
    s.failAsked test cooldown = s.failAskedOf (List.finRange 8) test cooldown := rfl

theorem State.slots_failTransaction (s : State) (k j : Fin 8) (cooldown : Bool) : (s.failTransaction k cooldown).handover.slots[j] =
    if j = k then ⟨s.handover.slots[j].generation, none⟩ else s.handover.slots[j] := by
  cases hx : s.handover.slots[k].transaction with
  | none =>
    rw [State.failTransaction_free hx]
    split
    next h => subst h; rw [← hx]
    next => rfl
  | some x =>
    rw [State.failTransaction_eq hx]
    simp only [State.failed, getElem_set_fin]
    split
    next h => rw [h]
    next => rfl

theorem State.asked_failTransaction {s : State} {k j : Fin 8} (h : j ≠ k) (test : Nat → Bool) (cooldown : Bool) :
    (s.failTransaction k cooldown).asked test j = s.asked test j := by
  unfold State.asked
  rw [State.slots_failTransaction, if_neg h]

theorem State.slots_failAskedOf (s : State) {slots : List (Fin 8)} (nodup : slots.Nodup) (test : Nat → Bool) (cooldown : Bool) (j : Fin 8) :
    (s.failAskedOf slots test cooldown).handover.slots[j] =
      if j ∈ slots ∧ s.asked test j = true then ⟨s.handover.slots[j].generation, none⟩ else s.handover.slots[j] := by
  induction slots generalizing s with
  | nil => simp [State.failAskedOf]
  | cons k rest ih =>
    rw [List.nodup_cons] at nodup
    obtain ⟨hk, hrest⟩ := nodup
    unfold State.failAskedOf
    rw [List.foldl_cons]
    refine (ih _ hrest).trans ?_
    have hslot := s.slots_failTransaction k j cooldown
    by_cases hasked : s.asked test k = true
    · rw [if_pos hasked, hslot]
      by_cases hj : j = k
      · subst hj
        simp [hk, hasked]
      · simp [hj, State.asked_failTransaction hj]
    · rw [if_neg hasked]
      by_cases hj : j = k
      · subst hj
        simp [hasked]
      · simp [hj]

theorem State.slots_failAsked (s : State) (test : Nat → Bool) (cooldown : Bool) (j : Fin 8) :
    (s.failAsked test cooldown).handover.slots[j] =
      if s.asked test j = true then ⟨s.handover.slots[j].generation, none⟩ else s.handover.slots[j] := by
  rw [State.failAsked_eq, State.slots_failAskedOf s (List.nodup_finRange 8)]
  simp [List.mem_finRange]

theorem State.queues_failAsked (s : State) (test : Nat → Bool) (cooldown : Bool) :
    (s.failAsked test cooldown).handover.queues = s.handover.queues := by
  refine State.failAsked_induction (P := fun u => u.handover.queues = s.handover.queues) (fun u k hu => ?_) s test rfl
  rw [← hu]
  unfold State.failTransaction
  split <;> rfl

/-- The slot of a record when its transaction is ASKED, with a target the test names (R112). -/
def State.askedOf (s : State) (test : Nat → Bool) (r : Record) : Option Transaction :=
  r.slot.bind (fun k => s.handover.slots[k].transaction.filter (fun x => x.phase == .asked && test x.target))

/-- A record as the end of its ASKED transaction leaves it, with or without the refusal cooldown (R108, R112). -/
def State.releasedBy (s : State) (test : Nat → Bool) (cooldown : Option Nat) (r : Record) : Record :=
  (s.askedOf test r).elim r (fun x => r.afterFailure x.target cooldown)

theorem State.askedOf_congr {s u : State} {r : Record} (same : ∀ k, r.slot = some k → u.handover.slots[k] = s.handover.slots[k])
    (test : Nat → Bool) : u.askedOf test r = s.askedOf test r := by
  unfold State.askedOf
  cases hslot : r.slot with
  | none => rfl
  | some k => rw [Option.bind_some, Option.bind_some, same k hslot]

theorem State.releasedBy_congr {s u : State} {r : Record} (same : ∀ k, r.slot = some k → u.handover.slots[k] = s.handover.slots[k])
    (test : Nat → Bool) (cooldown : Option Nat) : u.releasedBy test cooldown r = s.releasedBy test cooldown r := by
  unfold State.releasedBy
  rw [State.askedOf_congr same]

theorem State.asked_eq_true {s : State} {test : Nat → Bool} {k : Fin 8} : s.asked test k = true ↔
    ∃ x, s.handover.slots[k].transaction = some x ∧ x.phase = .asked ∧ test x.target = true := by
  unfold State.asked
  rw [Option.any_eq_true]
  simp

/-- A record whose transaction is not ASKED of a site that the test names stays as it is (R112). -/
theorem State.releasedBy_of_not_asked {s : State} {test : Nat → Bool} {r : Record} (h : ∀ k, r.slot = some k → s.asked test k = false)
    (cooldown : Option Nat) : s.releasedBy test cooldown r = r := by
  have hnone : s.askedOf test r = none := by
    unfold State.askedOf
    cases hslot : r.slot with
    | none => rfl
    | some k =>
      have hk := h k hslot
      unfold State.asked at hk
      rw [Option.bind_some]
      cases hx : s.handover.slots[k].transaction with
      | none => rfl
      | some x =>
        rw [hx, Option.any_some] at hk
        simpa using hk
  rw [State.releasedBy, hnone]
  rfl

theorem State.releasedBy_of_asked {s : State} {test : Nat → Bool} {r : Record} {k : Fin 8} {x : Transaction} (slot : r.slot = some k)
    (hx : s.handover.slots[k].transaction = some x) (phase : x.phase = .asked) (named : test x.target = true) (cooldown : Option Nat) :
    s.releasedBy test cooldown r = r.afterFailure x.target cooldown := by
  have hsome : s.askedOf test r = some x := by
    unfold State.askedOf
    rw [slot, Option.bind_some, hx]
    simp [phase, named]
  rw [State.releasedBy, hsome]
  rfl

theorem State.selected_failTransaction (s : State) (k : Fin 8) (cooldown : Bool) :
    (s.failTransaction k cooldown).selected = s.selected := by
  unfold State.selected
  rw [State.failTransaction_profiles]

theorem State.record?_failAskedOf {s : State} (sound : SlotsExact s) {slots : List (Fin 8)} (nodup : slots.Nodup) (test : Nat → Bool)
    (cooldown : Bool) (i : Index) : (s.failAskedOf slots test cooldown).record? i = (s.record? i).map (fun r =>
      if r.slot.any (fun k => slots.contains k) then s.releasedBy test (if cooldown then some s.selected.refusalCooldown else none) r
      else r) := by
  induction slots generalizing s with
  | nil => cases hr : s.record? i with
    | none => exact hr
    | some r =>
      have hsame : r.slot.any (fun k => [].contains k) = false := by cases r.slot <;> rfl
      rw [Option.map_some, hsame, if_neg Bool.false_ne_true]
      exact hr
  | cons k rest ih =>
    rw [List.nodup_cons] at nodup
    obtain ⟨hk, hrest⟩ := nodup
    unfold State.failAskedOf
    rw [List.foldl_cons]
    by_cases hasked : s.asked test k = true
    · rw [if_pos hasked]
      obtain ⟨x, hx, hphase, hnamed⟩ := State.asked_eq_true.mp hasked
      refine (ih (sound.failTransaction k cooldown) hrest).trans ?_
      rw [State.selected_failTransaction, State.failTransaction_eq hx, State.record?_failed]
      generalize (if cooldown = true then some s.selected.refusalCooldown else none) = cool
      have hown := sound.named k x.record
      rw [hx, Option.map_some, eq_self_iff_true, true_iff, Option.any_eq_true] at hown
      obtain ⟨r, hr, hslot⟩ := hown
      have hslot : r.slot = some k := beq_iff_eq.mp hslot
      by_cases hi : i = x.record
      · subst hi
        rw [if_pos rfl, hr]
        simp only [Option.map_some, hslot, Option.any_some, Record.afterFailure, Option.any_none, Bool.false_eq_true, if_false]
        rw [if_pos (by simp), State.releasedBy_of_asked hslot hx hphase hnamed]
        rfl
      · rw [if_neg hi]
        cases hq : s.record? i with
        | none => rfl
        | some q =>
          have hqslot : ∀ l, q.slot = some l → l ≠ k := fun l hl hlk => by
            have hnamed := (sound.named k i).mpr (by rw [hq, Option.any_some, hl, hlk, beq_self_eq_true])
            rw [hx] at hnamed
            exact hi (Option.some.inj hnamed).symm
          have hsame := State.releasedBy_congr (s := s) (u := s.failed k x cool) (r := q) (fun l hl => by
            have h := getElem_set_fin s.handover.slots k l ⟨s.handover.slots[k].generation, none⟩
            rw [if_neg (hqslot l hl)] at h
            exact h) test cool
          rw [Option.map_some, Option.map_some, hsame]
          cases hl : q.slot with
          | none => rfl
          | some l =>
            have hlk := hqslot l hl
            simp [hlk]
    · rw [if_neg hasked]
      refine (ih sound hrest).trans ?_
      cases hq : s.record? i with
      | none => rfl
      | some q =>
        rw [Option.map_some, Option.map_some]
        cases hl : q.slot with
        | none => rfl
        | some l =>
          by_cases hlk : l = k
          · subst hlk
            have hstays := State.releasedBy_of_not_asked (s := s) (test := test) (r := q) (fun j hj => by
              rw [hl] at hj
              cases hj
              simpa using hasked) (if cooldown = true then some s.selected.refusalCooldown else none)
            simp [hk, hstays]
          · simp [hlk]

/-- What every record is behind the end of the ASKED transactions of some sites (R108, R112). -/
theorem State.record?_failAsked {s : State} (sound : SlotsExact s) (test : Nat → Bool) (cooldown : Bool) (i : Index) :
    (s.failAsked test cooldown).record? i =
      (s.record? i).map (s.releasedBy test (if cooldown then some s.selected.refusalCooldown else none)) := by
  rw [State.failAsked_eq, State.record?_failAskedOf sound (List.nodup_finRange 8)]
  refine Option.map_congr fun r _ => ?_
  cases hslot : r.slot with
  | none =>
    rw [Option.any_none, if_neg Bool.false_ne_true, State.releasedBy_of_not_asked]
    intro k hk
    rw [hslot] at hk
    cases hk
  | some k => simp [List.mem_finRange]

end Sys2Proof.Machine
end

section
/-! PROOF. The changes of one record that change a member count, and the openings and closings of the link port (R48, R79, R119, R129,
R141): the facts kept. -/

namespace Sys2Proof.Machine

/-! ## One record and its counts -/

/-- What is left to show of a change of one record and of the interest map. -/
theorem ContentSound.write {s t : State} (h : ContentSound s) {i : Index} {o : Option Record}
    (records : t.visitors.records = s.visitors.records.set i o) (whole : ∀ q, o = some q → q.Whole)
    (queued : s.ports.link.isOpen = false → ∀ q, o = some q → q.queued = true → ∃ r, s.record? i = some r ∧ r.queued = true)
    (interest : ∀ count : Nat → Nat, (∀ tg, count tg + (if memberOf (s.record? i) tg then 1 else 0) =
      s.members tg + (if memberOf o tg then 1 else 0)) → MapSound t.interest count)
    (link : t.ports.link = s.ports.link) (neighbours : t.neighbours = s.neighbours)
    (asked : ∀ k : Fin 8, t.phase? k = some .asked → s.phase? k = some .asked) : ContentSound t := by
  have hrecord : ∀ j, t.record? j = if j = i then o else s.record? j := fun j => by
    simp only [State.record?, records, getElem_set_fin]
  refine ⟨fun j q hq => ?_, interest t.members (State.members_set records), fun closed => ?_⟩
  · rw [hrecord] at hq
    split at hq
    · exact whole q hq
    · exact h.records j q hq
  · rw [link] at closed
    have hs := h.island closed
    refine ⟨by rw [link]; exact hs.queue, by rw [link]; exact hs.refreshOwed, by rw [neighbours]; exact hs.neighbours,
      fun k hk => hs.noneAsked k (asked k hk), fun j q hq => ?_⟩
    rw [hrecord] at hq
    split at hq
    · cases hqq : q.queued with
      | false => rfl
      | true =>
        obtain ⟨r, hr, hrq⟩ := queued closed q hq hqq
        rw [hs.noneQueued i r hr] at hrq
        cases hrq
    · exact hs.noneQueued j q hq

theorem memberOf_none (tg : Nat) : memberOf none tg = false := rfl

theorem memberOf_uncounted {r : Record} (h : r.counted = false) (tg : Nat) : memberOf (some r) tg = false := by
  simp [memberOf, Record.countedList, h]

/-- The decrements of a record that leaves its talkgroups (R17, R79). -/
theorem ContentSound.decrementAll {s : State} (h : ContentSound s) {i : Index} {r : Record} (hr : s.record? i = some r)
    (counted : r.counted = true) {o : Option Record} (gone : ∀ tg, memberOf o tg = false) {count : Nat → Nat}
    (hcount : ∀ tg, count tg + (if memberOf (s.record? i) tg then 1 else 0) = s.members tg + (if memberOf o tg then 1 else 0)) :
    MapSound (s.interest.decrementAll s.selected.leaveHold r.talkgroups) count := by
  have hmem : ∀ tg, tg ∈ r.talkgroups ↔ tg ∈ r.countedList := fun tg => by simp [Record.mem_countedList, counted]
  refine (h.interest.decrementAll s.selected.leaveHold (h.records i r hr).talkgroups fun tg htg =>
    State.members_pos hr ((hmem tg).mp htg)).congr fun tg => ?_
  have htg := hcount tg
  rw [gone tg, hr] at htg
  by_cases hin : tg ∈ r.talkgroups
  · rw [if_pos ((memberOf_some r tg).mpr ((hmem tg).mp hin))] at htg
    rw [if_pos hin]
    simp only [Bool.false_eq_true, if_false] at htg
    omega
  · rw [if_neg (fun hm => hin ((hmem tg).mpr ((memberOf_some r tg).mp hm)))] at htg
    rw [if_neg hin]
    simp only [Bool.false_eq_true, if_false] at htg
    omega

theorem ContentSound.detach {s : State} (h : ContentSound s) {i : Index} {r : Record} (hr : s.record? i = some r) :
    ContentSound (s.detach i) := by
  have hsame := State.detach_eq hr
  have hrecords : (s.detach i).visitors.records = s.visitors.records.set i none := by rw [hsame]; rfl
  refine h.write hrecords (fun q hq => by cases hq) (fun _ q hq => by cases hq) (fun count hcount => ?_) (by rw [hsame])
    (by rw [hsame]) fun k hk => ?_
  · rw [hsame]
    dsimp only
    cases hcounted : r.counted with
    | true => exact h.decrementAll hr hcounted memberOf_none hcount
    | false =>
      refine h.interest.congr fun tg => ?_
      have htg := hcount tg
      rw [hr, memberOf_uncounted hcounted, memberOf_none] at htg
      exact htg
  · unfold State.phase? at hk ⊢
    rw [hsame] at hk
    dsimp only at hk
    cases hslot : r.slot with
    | none =>
      rw [hslot] at hk
      exact hk
    | some l =>
      rw [hslot, Option.elim_some, freeSlot_transaction] at hk
      split at hk
      · cases hk
      · exact hk

theorem ContentSound.release {s : State} (h : ContentSound s) (i : Index) : ContentSound (s.release i) := by
  cases hr : s.record? i with
  | none => simpa only [State.release, hr] using h
  | some r =>
    rw [State.release_eq hr]
    exact (h.detach hr).kept (.of_eq rfl rfl ⟨rfl, rfl, rfl⟩ rfl fun _ => id)

/-- An ACTIVE record goes LOST: it is a member of nothing any more (R79). -/
theorem ContentSound.lose {s : State} (h : ContentSound s) {i : Index} {r : Record} (hr : s.record? i = some r)
    (state : r.state = .active) : ContentSound (s.lose i r) := by
  have hwhole := h.records i r hr
  rw [State.lose_eq, State.modifyRecord_eq_set hr]
  refine h.write (i := i) (o := some { r with state := .lost, stateAge := 0, queued := false, target := none }) rfl (fun q hq => ?_)
    (fun _ q hq hqueued => ?_) (fun count hcount => ?_) rfl rfl fun _ => id
  · cases hq
    obtain ⟨hserving, hhome, horigin, hlate, htalkgroups⟩ := hwhole
    simp only [state] at hserving hhome horigin hlate
    exact ⟨by simpa using hserving, fun _ => hhome (by simp), by simpa using horigin, fun _ => hlate (by simp), htalkgroups⟩
  · cases hq
    cases hqueued
  · exact h.decrementAll hr (by simp [Record.counted, state]) (fun tg => memberOf_uncounted rfl tg) hcount

/-- The arrival that marks a radio heard makes a LOST record ACTIVE, a member of the talkgroups that could be mapped (R56). -/
theorem ContentSound.hear {s : State} (h : ContentSound s) {i : Index} {r : Record} (hr : s.record? i = some r) :
    ContentSound ((s.markHeard i).reactivate i r) := by
  have hheard : ContentKept s (s.markHeard i) :=
    (ContentKept.modifyRecord s i (f := fun x => { x with heard := true }) fun x _ => .same rfl rfl id).trans
      (.of_eq rfl rfl ⟨rfl, rfl, rfl⟩ rfl fun _ => id)
  unfold State.reactivate
  split
  next hlost =>
    have hr' : (s.markHeard i).record? i = some { r with heard := true } := by simp [hr]
    have hs := h.kept hheard
    revert hs hr'
    generalize s.markHeard i = u
    intro hr' hs
    have hwhole := hs.records i _ hr'
    have hgranted := State.countTalkgroups_sublist u r.unit r.talkgroups
    have hmap := hs.interest.countTalkgroups r.unit hwhole.talkgroups
    have hframe := State.countTalkgroups_eq u r.unit r.talkgroups
    have hc : (u.countTalkgroups r.unit r.talkgroups).1.record? i = some { r with heard := true } := by rw [hframe]; exact hr'
    revert hgranted hmap hframe hc
    generalize u.countTalkgroups r.unit r.talkgroups = counted
    obtain ⟨w, granted⟩ := counted
    intro hgranted hmap hframe hc
    dsimp only at hgranted hmap hframe hc ⊢
    rw [State.modifyRecord_eq_set hc]
    refine hs.write (i := i) (o := some { r with
        heard := true, state := .active, history := allHeard, talkgroups := granted }) (by rw [hframe]) (fun q hq => ?_)
      (fun _ q hq hqueued => ⟨_, hr', ?_⟩) (fun count hcount => hmap.congr fun tg => ?_) (by rw [hframe]) (by rw [hframe])
      (by rw [hframe]; exact fun _ => id)
    · cases hq
      obtain ⟨hserving, hhome, horigin, hlate, htalkgroups⟩ := hwhole
      simp only [hlost] at hserving hhome horigin hlate
      exact ⟨by simpa using hserving, fun _ => hhome (by simp), by simpa using horigin, fun _ => hlate (by simp),
        htalkgroups.sublist hgranted⟩
    · cases hq
      exact hqueued
    · have htg := hcount tg
      rw [hr', memberOf_uncounted (by simp [Record.counted, hlost])] at htg
      have hin : memberOf (some { r with heard := true, state := .active, history := allHeard, talkgroups := granted }) tg = true ↔
          tg ∈ granted := by simp [memberOf_some, Record.mem_countedList, Record.counted]
      simp only [hin, Bool.false_eq_true, if_false] at htg
      exact htg
  next => exact h.kept hheard

/-! ## A done REGISTER -/

/-- The counts that a done REGISTER leaves: the old counted list is left, the new one joined (R48, R120). -/
theorem MapSound.recounted {u : State} {count : Nat → Nat} (h : MapSound u.interest count) (unit : Nat) {old requested : List Nat}
    (oldNodup : old.Nodup) (nodup : requested.Nodup) (pos : ∀ tg ∈ old, 0 < count tg) {after : Nat → Nat}
    (hafter : ∀ tg, after tg + (if tg ∈ old then 1 else 0) = count tg +
      (if tg ∈ requested.filter (fun tg => old.contains tg || (u.recounted unit old requested).2.contains tg) then 1 else 0)) :
    MapSound (u.recounted unit old requested).1.interest after := by
  have hleft := h.decrementAll u.selected.leaveHold (oldNodup.filter (fun tg => !requested.contains tg))
    fun tg htg => pos tg (List.mem_filter.mp htg).1
  have hjoined := hleft.countTalkgroups (s := u.uncountTalkgroups (old.filter (fun tg => !requested.contains tg))) unit
    (nodup.filter (fun tg => !old.contains tg))
  have hgranted := State.countTalkgroups_sublist (u.uncountTalkgroups (old.filter (fun tg => !requested.contains tg))) unit
    (requested.filter (fun tg => !old.contains tg))
  refine hjoined.congr fun tg => ?_
  have htg := hafter tg
  have hsub : tg ∈ (u.recounted unit old requested).2 → tg ∈ requested ∧ tg ∉ old := fun hin => by
    simpa using List.mem_filter.mp (hgranted.subset hin)
  have hpos := pos tg
  change after tg = count tg - (if tg ∈ old.filter (fun tg => !requested.contains tg) then 1 else 0) +
    (if tg ∈ (u.recounted unit old requested).2 then 1 else 0)
  simp only [List.mem_filter, Bool.or_eq_true, Bool.not_eq_true', List.contains_eq_mem, decide_eq_false_iff_not,
    decide_eq_true_eq] at htg ⊢
  by_cases hold : tg ∈ old
  · have hnot : tg ∉ (u.recounted unit old requested).2 := fun hin => (hsub hin).2 hold
    have := hpos hold
    by_cases hreq : tg ∈ requested
    · simp only [hold, hreq, hnot, true_and, not_true, if_true, if_false, true_or] at htg ⊢
      omega
    · simp only [hold, hreq, hnot, true_and, false_and, not_false_eq_true, if_true, if_false] at htg ⊢
      omega
  · by_cases hin : tg ∈ (u.recounted unit old requested).2
    · simp only [hold, hin, (hsub hin).1, false_and, true_and, false_or, if_true, if_false] at htg ⊢
      omega
    · simp only [hold, hin, false_and, and_false, false_or, if_false] at htg ⊢
      omega

/-- What stands at an index of the records, and the talkgroups it is a member of (R119). -/
def countedAt (o : Option Record) : List Nat := o.elim [] Record.countedList

theorem memberOf_iff (o : Option Record) (tg : Nat) : memberOf o tg = true ↔ tg ∈ countedAt o := by
  cases o with
  | none => simp [memberOf, countedAt]
  | some r => exact memberOf_some r tg

/-- A done REGISTER of a record that only its talkgroups and fields keep from being whole (R48, R49). -/
theorem ContentSound.written {s u : State} (h : ContentSound s) {i : Index} {r : Record}
    (same : u = { s with visitors := u.visitors, sweep := u.sweep, claims := u.claims, handover := u.handover })
    (records : u.visitors.records = s.visitors.records.set i (some r))
    (asked : ∀ k : Fin 8, u.phase? k = some .asked → s.phase? k = some .asked)
    (state : r.state = .active ∨ r.state = .transit) (origin : r.origin = none) (late : r.state ≠ .transit → r.noneLate)
    (queued : r.queued = true → ∃ q, s.record? i = some q ∧ q.queued = true) (c : Fin 4) (f : RegisterFields) {old : List Nat}
    (hold : old = countedAt (s.record? i)) (claim : Bool) : ContentSound (u.written c f i old claim) := by
  have hu : u.record? i = some r := by simp [State.record?, records]
  have hnodup : old.Nodup := by
    rw [hold]
    cases hq : s.record? i with
    | none => exact List.nodup_nil
    | some q =>
      unfold countedAt Record.countedList
      rw [Option.elim_some]
      split
      · exact (h.records i q hq).talkgroups
      · exact List.nodup_nil
  have hpos : ∀ tg ∈ old, 0 < s.members tg := fun tg htg => by
    rw [hold] at htg
    cases hq : s.record? i with
    | none => rw [hq] at htg; cases htg
    | some q => rw [hq] at htg; exact State.members_pos hq htg
  have hmap : MapSound u.interest s.members := by rw [same]; exact h.interest
  have hcount := fun after => hmap.recounted (after := after) f.unit hnodup (requestedList_nodup f.talkgroups) hpos
  rw [State.written_eq hu c f old claim rfl rfl rfl, State.recounted_eq]
  revert hcount
  generalize u.recounted f.unit old (requestedList f.talkgroups) = v
  intro hcount
  obtain ⟨v, granted⟩ := v
  dsimp only at hcount ⊢
  generalize hlist : (requestedList f.talkgroups).filter (fun tg => old.contains tg || granted.contains tg) = list at hcount ⊢
  generalize ((u.scored f.attenuation f.grade).into r.home).1 = home
  refine h.write (i := i) (o := some (r.registered c ((RadioClass.ofCode f.cls).getD .general)
    home list claim)) ?_ (fun q hq => ?_) (fun _ q hq hqueued => ?_) (fun count hmembers => ?_)
    (by rw [same]) (by rw [same]) fun k hk => asked k hk
  · show u.visitors.records.set i _ = s.visitors.records.set i _
    rw [records]
    simp
  · cases hq
    refine ⟨?_, fun _ => rfl, ?_, late, ?_⟩
    · rcases state with hstate | hstate <;> simp [Record.registered, hstate]
    · rcases state with hstate | hstate <;> simp [Record.registered, hstate, origin]
    · show list.Nodup
      rw [← hlist]
      exact (requestedList_nodup f.talkgroups).filter _
  · cases hq
    exact queued hqueued
  · refine hcount count fun tg => ?_
    have htg := hmembers tg
    have hcounted : (r.registered c ((RadioClass.ofCode f.cls).getD .general)
        home list claim).countedList = list := by
      rcases state with hstate | hstate <;> simp [Record.countedList, Record.counted, Record.registered, hstate]
    simp only [memberOf_iff, ← hold] at htg
    rw [show countedAt (some (r.registered c ((RadioClass.ofCode f.cls).getD .general)
        home list claim)) = list from hcounted] at htg
    exact htg

/-! ## Records allocated, asked for and decided -/

/-- An allocation fills a FREE record, behind an eviction or not (R13, R14). -/
theorem ContentSound.allocate {s t : State} (h : ContentSound s) (sound : TableSound s.visitors) {unit seq : Nat} {cls : RadioClass}
    {state : RecordState} {i : Index} (given : s.allocate unit cls seq state = some (t, i)) : ∃ b : State, ContentSound b
      ∧ b.record? i = none ∧ t = { b with visitors := t.visitors }
      ∧ t.visitors.records = b.visitors.records.set i (some (.fresh unit cls seq state s.sweep.parity)) := by
  rcases State.allocate_of_vacant given with ⟨rest, hfree, rfl⟩ | ⟨r, hr, -, rfl⟩
  · exact ⟨s, h, (sound.partition.free_iff i).mp (by simp [hfree]), rfl, rfl⟩
  · exact ⟨s.detach i, h.detach hr, by rw [State.record?_detach hr, if_pos rfl], rfl, rfl⟩

/-- A record that is no member of anything, before and after (R3, R119). -/
theorem ContentSound.writeUncounted {s t : State} (h : ContentSound s) {i : Index} {q : Record}
    (before : ∀ r, s.record? i = some r → r.counted = false) (counted : q.counted = false) (whole : q.Whole)
    (queued : q.queued = true → ∃ r, s.record? i = some r ∧ r.queued = true)
    (records : t.visitors.records = s.visitors.records.set i (some q))
    (same : t = { s with visitors := t.visitors, claims := t.claims }) : ContentSound t := by
  refine h.write records (fun x hx => ?_) (fun _ x hx hqueued => ?_) (fun count hcount => ?_) (by rw [same]) (by rw [same])
    (by rw [same]; exact fun _ => id)
  · cases hx
    exact whole
  · cases hx
    exact queued hqueued
  · rw [show t.interest = s.interest by rw [same]]
    refine h.interest.congr fun tg => ?_
    have htg := hcount tg
    rw [memberOf_uncounted counted] at htg
    cases hr : s.record? i with
    | none => rw [hr, memberOf_none] at htg; exact htg
    | some r => rw [hr, memberOf_uncounted (before r hr)] at htg; exact htg

theorem Record.uncounted_of_state {r : Record} (h : r.state = .expected ∨ r.state = .lost) : r.counted = false := by
  rcases h with h | h <;> simp [Record.counted, h]

theorem ContentSound.enter {s t : State} (h : ContentSound s) (sound : TableSound s.visitors) {unit seq : Nat} {cls : RadioClass}
    {i : Index} (given : s.allocate unit cls seq .active = some (t, i)) (c : Fin 4) (f : RegisterFields) :
    ContentSound (t.written c f i [] true) := by
  obtain ⟨b, hb, hvacant, hsame, hrecords⟩ := h.allocate sound given
  exact hb.written (by rw [hsame]) hrecords (by rw [hsame]; exact fun _ => id) (Or.inl rfl) rfl (fun _ => nofun) nofun c f
    (by rw [hvacant]; rfl) true

theorem ContentSound.askNew {s t : State} (h : ContentSound s) (sound : TableSound s.visitors) {unit seq : Nat} {cls : RadioClass}
    {i : Index} (given : s.allocate unit cls seq .expected = some (t, i)) (f : AskFields) :
    ContentSound (t.modifyRecord i (fun x => x.asked f)) := by
  have hfresh := State.record?_allocate given
  obtain ⟨b, hb, hvacant, hsame, hrecords⟩ := h.allocate sound given
  have hnone : ∀ r, b.record? i = some r → r.counted = false := fun r hr => by
    rw [hvacant] at hr
    cases hr
  rw [State.modifyRecord_eq_set hfresh]
  have hlate : (Record.fresh unit cls seq .expected s.sweep.parity).noneLate := fun e he => by cases he
  refine hb.writeUncounted hnone (q := (Record.fresh unit cls seq .expected s.sweep.parity).asked f) rfl
    (Record.asked_whole hlate f) nofun ?_ ?_
  · show t.visitors.records.set i _ = b.visitors.records.set i _
    rw [hrecords]
    simp
  · rw [hsame]

theorem ContentSound.asked {s : State} (h : ContentSound s) {i : Index} {r : Record} (hr : s.record? i = some r)
    (state : r.state = .expected ∨ r.state = .lost) (f : AskFields) : ContentSound (s.modifyRecord i (fun x => x.asked f)) := by
  have hlate : r.noneLate := (h.records i r hr).noneLate (by rcases state with hs | hs <;> simp [hs])
  rw [State.modifyRecord_eq_set hr]
  refine h.writeUncounted (q := r.asked f) (fun q hq => ?_) rfl (Record.asked_whole hlate f) (fun hq => ⟨r, hr, hq⟩) rfl rfl
  rw [hr] at hq
  cases hq
  exact Record.uncounted_of_state state

theorem ContentSound.askLost {s : State} (h : ContentSound s) {i : Index} {r : Record} (hr : s.record? i = some r)
    (state : r.state = .lost) (f : AskFields) : ContentSound (s.askLost f i) := by
  have hdrop : ContentKept (s.modifyRecord i (fun x => x.asked f)) ((s.modifyRecord i (fun x => x.asked f)).dropClaim i) :=
    (ContentKept.modifyRecord _ i (f := fun x => { x with claimPending := false }) fun x _ => .same rfl rfl id).trans
      (.of_eq rfl rfl ⟨rfl, rfl, rfl⟩ rfl fun _ => id)
  exact ((h.asked hr (Or.inr state) f).kept hdrop).kept (.of_eq rfl rfl ⟨rfl, rfl, rfl⟩ rfl fun _ => id)

/-- A held record readmitted, with its counts of before, is left as a done REGISTER leaves it (R49 to R56). -/
theorem ContentSound.readmit {s : State} (h : ContentSound s) {i : Index} {r : Record} (hr : s.record? i = some r) (seq : Nat)
    (c : Fin 4) (f : RegisterFields) (claim : Bool) :
    ContentSound ((s.modifyRecord i (fun x => x.readmitted seq)).written c f i r.countedList claim) := by
  have hwhole := h.records i r hr
  have hread : (r.readmitted seq).neighbours = r.neighbours ∧ (r.readmitted seq).queued = r.queued := by
    unfold Record.readmitted
    split <;> exact ⟨rfl, rfl⟩
  have hstate : ((r.readmitted seq).state = .active ∨ (r.readmitted seq).state = .transit) ∧ (r.readmitted seq).origin = none
      ∧ ((r.readmitted seq).state ≠ .transit → r.state ≠ .transit) := by
    have horigin : r.state ≠ .expected → r.origin = none := fun hn => by simpa [hn] using hwhole.origin
    unfold Record.readmitted
    split
    next hs => exact ⟨Or.inl rfl, rfl, by simp [hs]⟩
    next hs => exact ⟨Or.inl hs, horigin (by simp [hs]), id⟩
    next hs => exact ⟨Or.inr hs, horigin (by simp [hs]), id⟩
    next hs => exact ⟨Or.inl rfl, horigin (by simp [hs]), by simp [hs]⟩
  obtain ⟨hneighbours, hqueued⟩ := hread
  obtain ⟨hactive, horigin, htransit⟩ := hstate
  have hrecords : (s.modifyRecord i (fun x => x.readmitted seq)).visitors.records = s.visitors.records.set i (some (r.readmitted seq)) := by
    rw [State.modifyRecord_eq_set hr]
  refine h.written (r := r.readmitted seq) rfl hrecords (fun _ => id) hactive horigin (fun hn e he => ?_) (fun hq => ⟨r, hr, hqueued ▸ hq⟩)
    c f (by rw [hr]; rfl) claim
  exact hwhole.noneLate (htransit hn) e (hneighbours ▸ he)

/-- With every neighbour DOWN no site is a candidate (R83). -/
theorem Isolated.winner_none {s : State} (h : Isolated s) (p : Snapshot) (r : Record) : s.winner p r = none := by
  refine Option.eq_none_iff_forall_ne_some.mpr fun site hw => ?_
  obtain ⟨v, hbest, -⟩ := State.winner_eq_some.mp hw
  obtain ⟨e, -, -, hcandidate⟩ := hbest.attained
  obtain ⟨n, hn, -, hlink, -⟩ := State.candidate_eq_some.mp hcandidate
  obtain ⟨k, -, hk⟩ := Option.bind_eq_some_iff.mp hn
  have hdown := h.neighbours k n hk
  rcases hlink with hup | ⟨hfading, -⟩
  · rw [hdown] at hup
    cases hup
  · rw [hdown] at hfading
    cases hfading

/-- A decision queues no record while the link port is CLOSED (R84, R113). -/
theorem ContentSound.decideHandover {s : State} (h : ContentSound s) (lists : ClassQueuesExact s) (p : Snapshot) {i : Index} {r : Record}
    (hr : s.record? i = some r) : ContentSound (s.decideHandover p i r) := by
  have hfollows := Record.Follows.recounted r (s.winner p r)
  rw [lists.decideHandover_eq p hr, State.modifyRecord_eq_set hr]
  refine h.write (i := i) (o := some (r.decided p (s.winner p r))) rfl (fun q hq => ?_) (fun closed q hq hqueued => ?_)
    (fun count hcount => ?_) rfl rfl fun k hk => ?_
  · cases hq
    have hcounted := hfollows.whole (h.records i r hr)
    exact ⟨hcounted.serving, hcounted.home, hcounted.origin, hcounted.noneLate, hcounted.talkgroups⟩
  · cases hq
    rw [(h.island closed).winner_none] at hqueued
    cases hqueued
  · refine h.interest.congr fun tg => ?_
    have htg := hcount tg
    rw [hr] at htg
    exact Nat.add_right_cancel htg
  · have hslots : (s.handover.decided p (s.winner p r) i r).slots = s.handover.slots := by
      rw [HandoverUnit.decided_eq]
    unfold State.phase? at hk ⊢
    rw [← hslots]
    exact hk

/-! ## The link port -/

theorem State.neighbours_islanded (s : State) (k : Fin 12) :
    s.islanded.neighbours[k] = s.neighbours[k].map (fun n => { n with link := .down }) := by
  unfold State.islanded
  rw [State.withdrawTargets_neighbours, State.failAsked_neighbours]
  simp [State.allDown]

theorem ContentKept.islanded {s : State} (h : ListsExact s) : ContentKept s s.islanded := by
  have hdown : ContentKept s s.allDown :=
    { record := fun i q hq => ⟨q, hq, .refl q⟩
      vacant := fun _ hi => hi
      interest := rfl
      isOpen := rfl
      queue := fun _ => id
      refreshOwed := id
      neighbours := fun _ _ k n hn => by
        have hk : s.allDown.neighbours[k] = s.neighbours[k].map (fun n => { n with link := .down }) := by simp [State.allDown]
        rw [hk] at hn
        obtain ⟨m, -, rfl⟩ := Option.map_eq_some_iff.mp hn
        rfl
      asked := fun _ => id }
  have hlists : ListsKept s s.allDown := .of_eq rfl rfl rfl
  exact (hdown.trans (.failAsked (hlists.exact h) _ _)).trans (.withdrawTargets _ _)

theorem State.slots_withdrawTargets (s : State) (test : Nat → Bool) (k : Fin 8) :
    (s.withdrawTargets test).handover.slots[k] = s.handover.slots[k] := rfl

theorem State.noneAsked_islanded (s : State) (k : Fin 8) : s.islanded.phase? k ≠ some .asked := by
  intro hk
  unfold State.phase? State.islanded at hk
  rw [State.slots_withdrawTargets, State.slots_failAsked] at hk
  split at hk
  · cases hk
  next hn =>
    obtain ⟨x, hx, hphase⟩ := Option.map_eq_some_iff.mp hk
    exact hn (State.asked_eq_true.mpr ⟨x, hx, hphase, rfl⟩)

theorem ListsExact.noneQueued_islanded {s : State} (h : ListsExact s) (i : Index) (r : Record) (hr : s.islanded.record? i = some r) :
    r.queued = false := by
  have hlists : ListsKept s s.allDown := .of_eq rfl rfl rfl
  have hqueued := ((hlists.exact h).failAsked (fun _ => true) true).queues.queued
  unfold State.islanded at hr
  rw [State.record?_withdrawTargets] at hr
  obtain ⟨q, hq, rfl⟩ := Option.map_eq_some_iff.mp hr
  obtain ⟨-, htarget⟩ := hqueued i q hq
  split
  next => rfl
  next hn =>
    cases hqq : q.queued with
    | false => rfl
    | true =>
      rw [hqq] at htarget hn
      obtain ⟨site, hsite⟩ := Option.isSome_iff_exists.mp htarget
      rw [hsite] at hn
      exact absurd rfl hn

/-- A closing of the link port leaves an island when nothing is queued, asked or UP any more (R113, R141). -/
theorem ContentSound.linkShut {s : State} (h : ContentSound s)
    (neighbours : ∀ (k : Fin 12) (n : Neighbour), s.neighbours[k] = some n → n.link = .down)
    (noneAsked : ∀ k : Fin 8, s.phase? k ≠ some .asked) (noneQueued : ∀ (i : Index) (r : Record), s.record? i = some r → r.queued = false) :
    ContentSound s.linkShut :=
  ⟨h.records, h.interest.closed, fun _ => ⟨rfl, rfl, neighbours, noneAsked, noneQueued⟩⟩

theorem ContentSound.closeLink {s : State} (h : ContentSound s) (lists : ListsExact s) (cause : Kind) :
    ContentSound (s.closeLink cause) := by
  rw [State.closeLink_eq]
  have hshut := (h.kept (.islanded lists)).linkShut (fun k n hn => ?_) s.noneAsked_islanded lists.noneQueued_islanded
  · exact hshut.kept (.raiseAlarm _ _ _)
  · rw [State.neighbours_islanded] at hn
    obtain ⟨m, -, rfl⟩ := Option.map_eq_some_iff.mp hn
    rfl

/-- A slot written from what another state, with the same neighbours, holds there (R135, R137). -/
theorem ContentKept.neighbourAfter {s u : State} (neighbours : u.neighbours = s.neighbours) (k : Fin 12) (site : Nat) (bias : Int) :
    ContentKept u (u.setNeighbourSlot k (neighbourAfter s.neighbours[k] site bias)) :=
  .setNeighbourSlot u k _ fun _ hs _ => neighbourAfter_down fun n hn => hs n (by rw [neighbours]; exact hn)

theorem ContentSound.replaceSlot {s u : State} (h : ContentSound u) (neighbours : u.neighbours = s.neighbours) (k : Fin 12) (site : Nat)
    (bias : Int) : ContentSound (u.setNeighbourSlot k (Machine.neighbourAfter s.neighbours[k] site bias)) :=
  h.kept (.neighbourAfter neighbours k site bias)

theorem ContentSound.openLink {s : State} (h : ContentSound s) : ContentSound s.openLink :=
  ⟨h.records, h.interest.opened, fun closed => absurd closed (by simp [State.openLink, State.modifyLink])⟩

/-! ## The changes that a step is made of -/

/-- A state without records and lists (R11, R23, R24). -/
theorem ContentSound.of_vacant {s : State} (records : ∀ i : Index, s.record? i = none) (interest : s.interest = .reset)
    (island : s.ports.link.isOpen = false → Isolated s) : ContentSound s where
  records i r hr := by rw [records] at hr; cases hr
  interest := by
    rw [interest]
    refine MapSound.reset.congr fun tg => ?_
    by_contra hne
    obtain ⟨i, r, hr, -⟩ := State.members_pos_iff.mp (Nat.pos_of_ne_zero hne)
    rw [records] at hr
    cases hr
  island := island

theorem ContentSound.siteReset {s : State} (h : ContentSound s) : ContentSound s.siteReset := by
  refine .of_vacant s.record?_siteReset rfl fun closed => ⟨rfl, closed, (h.island closed).neighbours, fun k hk => ?_, fun i r hr => ?_⟩
  · unfold State.phase? at hk
    rw [State.siteReset_slots] at hk
    cases hk
  · rw [State.record?_siteReset] at hr
    cases hr

theorem ContentSound.leaveExpiry {s : State} (h : ContentSound s) (tg : Nat) : ContentSound { s with interest := s.interest.expire tg } :=
  ⟨h.records, h.interest.expire tg, fun closed =>
    ⟨(h.island closed).queue, (h.island closed).refreshOwed, (h.island closed).neighbours, (h.island closed).noneAsked,
      (h.island closed).noneQueued⟩⟩

theorem ContentKept.setOutbound (s : State) (l : List Confirmation) (p : Port) : ContentKept s (s.setOutbound l p) := by
  cases p with
  | maintenance => exact .of_eq rfl rfl ⟨rfl, rfl, rfl⟩ rfl fun _ => id
  | link => exact .of_eq rfl rfl ⟨rfl, rfl, rfl⟩ rfl fun _ => id
  | channel c => exact .of_eq rfl rfl ⟨rfl, rfl, rfl⟩ rfl fun _ => id

theorem ContentKept.poll (s : State) (p : Snapshot) (r : Record) : ContentKept s (s.poll p r) := by
  unfold State.poll
  split
  · exact .refl s
  · split
    · exact .of_eq rfl rfl ⟨rfl, rfl, rfl⟩ rfl fun _ => id
    · exact .refl s

theorem State.startSweep_link (s : State) : s.startSweep.ports.link = s.ports.link := by rw [State.startSweep_channels]

theorem ContentKept.startSweep (s : State) : ContentKept s s.startSweep :=
  .of_eq (by rw [State.startSweep_visitors]) (by simp) (by rw [State.startSweep_link]; exact ⟨rfl, rfl, rfl⟩) (by simp)
    fun k => by rw [State.phase?, State.phase?, State.startSweep_handover]; exact id

theorem ContentKept.withSweep (s : State) (u : SweepUnit) : ContentKept s { s with sweep := u } :=
  .of_eq rfl rfl ⟨rfl, rfl, rfl⟩ rfl fun _ => id

theorem ContentKept.sweepExpiry (s : State) : ContentKept s s.sweepExpiry := by
  have hloaded := ContentKept.withSweep s { s.sweep with timer := Timer.load s.selected.sweepPeriod }
  unfold State.sweepExpiry
  dsimp only
  split
  · exact hloaded.trans (.withSweep _ _)
  · exact hloaded.trans (.startSweep _)

/-- A change of blocks that the facts do not read. -/
theorem ContentKept.of_blocks {s t : State} (records : t.visitors.records = s.visitors.records) (interest : t.interest = s.interest)
    (link : t.ports.link = s.ports.link) (neighbours : t.neighbours = s.neighbours) (handover : t.handover = s.handover) :
    ContentKept s t :=
  .of_eq records interest (by rw [link]; exact ⟨rfl, rfl, rfl⟩) neighbours fun k => by
    rw [State.phase?, State.phase?, handover]
    exact id

/-- Every change keeps the facts. -/
theorem ContentSound.deed {s t : State} (hd : Deed s t) (sound : TableSound s.visitors) (lists : ListsExact s) (h : ContentSound s) :
    ContentSound t := by
  cases hd with
  | dropLink n =>
    exact h.kept (.withLinkQueue s (s.ports.link.queue.drop n) fun _ hq => by rw [hq, List.drop_nil])
  | outbound l p => exact h.kept (.setOutbound s l p)
  | openLink => exact h.openLink
  | closeLink cause => exact h.closeLink lists cause
  | offer n => exact h.kept (.offered s n)
  | attempt k => exact h.kept (.moveAttempt lists k)
  | fail k cooldown => exact h.kept (.failTransaction lists k cooldown)
  | hear i r held => exact h.hear held
  | call i inCall => exact h.kept (.modifyRecord s i fun r _ => .same rfl rfl id)
  | uplink i a g => exact h.kept (.modifyRecord s i fun r _ => .withHome r _)
  | downlink i r a g site t held known routed =>
    refine h.kept (.modifyRecord s i fun q hq => ?_)
    rw [held] at hq
    cases hq
    refine .routed routed fun hstate => ?_
    rw [State.targetOf?, lists.slots.slot_none held hstate]
    rfl
  | enter c f t i absent range given => exact h.enter sound given c f
  | readmit c f i r seq claim held unit range stored => exact h.readmit held seq c f claim
  | release i => exact h.release i
  | askNew f t i absent range given => exact h.askNew sound given f
  | askExpected f i r held state range => exact h.asked held (Or.inl state) f
  | askLost f i r held state range => exact h.askLost held state f
  | sweepExpiry => exact h.kept (.sweepExpiry s)
  | stamp i r held unvisited =>
    have hstamped : ContentKept s (s.modifyRecord i (fun r => { r with stamp := s.sweep.parity })) :=
      .modifyRecord s i fun r _ => .same rfl rfl id
    exact h.kept (hstamped.trans (.of_eq rfl rfl ⟨rfl, rfl, rfl⟩ rfl fun _ => id))
  | shift i => exact h.kept (.modifyRecord s i fun r _ => .same rfl rfl id)
  | lose i r held state => exact h.lose held state
  | poll p r => exact h.kept (.poll s p r)
  | ageEntries i life => exact h.kept (.modifyRecord s i fun r _ => .agedEntries r life)
  | decide p i r held state => exact h.decideHandover lists.queues p held
  | older i => exact h.kept (.modifyRecord s i fun r _ => .same rfl rfl id)
  | rest i => exact h.kept (.modifyRecord s i fun r _ => .same rfl rfl id)
  | setSlot k site bias range kept => exact h.kept (.neighbourAfter rfl k site bias)
  | replaceSlot k site gone bias range removed =>
    have hremoved := h.kept (.removeSite lists gone)
    exact hremoved.replaceSlot (s.removeSite_neighbours gone) k site bias
  | linkState k n l held opened =>
    exact h.kept (.setNeighbourSlot s k _ fun closed => by rw [opened] at closed; cases closed)
  | neighbourDown site => exact h.kept (.neighbourDown lists site)
  | siteReset => exact h.siteReset
  | leaveExpiry tg => exact h.leaveExpiry tg
  | flush time =>
    exact h.kept (.withLinkQueue s (flushOldest time s.ports.link.queue) fun _ hq => by rw [hq]; rfl)
  | _ => exact h.kept (.of_blocks rfl rfl rfl rfl rfl)

/-! ## The end of a step, and the step -/

/-- A grant is made while the link port is OPEN, so it leaves no island to keep (R142, R144). -/
theorem ContentSound.granted {s t : State} (room : s.linkHasRoom = true) (isOpen : t.ports.link.isOpen = s.ports.link.isOpen)
    (records : ∀ (i : Index) (r : Record), t.record? i = some r → r.Whole) (interest : MapSound t.interest t.members) : ContentSound t where
  records := records
  interest := interest
  island closed := by
    simp only [State.linkHasRoom, Bool.and_eq_true] at room
    rw [isOpen, room.1] at closed
    cases closed

/-- A granted record is a member of what it was (R95, R119). -/
theorem Record.granted_whole {r : Record} (h : r.Whole) (state : r.state = .active) (k : Fin 8) :
    (r.granted k).Whole ∧ (r.granted k).countedList = r.countedList := by
  obtain ⟨hserving, hhome, horigin, -, htalkgroups⟩ := h
  simp only [state] at hserving hhome horigin
  refine ⟨⟨by simpa [Record.granted] using hserving, fun _ => hhome (by simp), by simpa [Record.granted] using horigin,
    fun hn => absurd rfl hn, htalkgroups⟩, ?_⟩
  simp [Record.countedList, Record.counted, Record.granted, state]

theorem ContentSound.grant {s : State} (h : ContentSound s) (room : s.linkHasRoom = true) (lists : ListsExact s) {k : Fin 8} {i : Index}
    {r : Record} (hg : s.nextGrant? = some (k, i, r)) : ContentSound (s.grant k i r) := by
  obtain ⟨-, ⟨c, hc⟩, hr⟩ := State.nextGrant?_eq_some hg
  have hqueued := (lists.queues.mem_iff c i).mp hc
  rw [hr, Option.any_some, Bool.and_eq_true, Bool.and_eq_true, beq_iff_eq] at hqueued
  obtain ⟨⟨hactive, -⟩, -⟩ := hqueued
  obtain ⟨hwhole, hcounted⟩ := Record.granted_whole (h.records i r hr) hactive k
  have hrecord : ∀ j, (s.grant k i r).record? j = if j = i then some (r.granted k) else s.record? j := fun j => by
    refine (s.record?_modifyRecord i j (fun r => r.granted k)).trans ?_
    rw [hr]
    rfl
  refine .granted room rfl (fun j q hq => ?_) (h.interest.congr (State.members_congr fun j => ?_))
  · rw [hrecord] at hq
    split at hq
    · cases hq
      exact hwhole
    · exact h.records j q hq
  · rw [hrecord]
    split
    next hj => rw [hj, hr, Option.map_some, Option.map_some, hcounted]
    next => rfl

theorem ContentSound.grantPlace {s t : State} (hg : s.grantPlace = some t) (lists : ListsExact s) (h : ContentSound s) :
    ContentSound t := by
  obtain ⟨room, h1 | h1 | h1 | h1 | h1⟩ := State.grantPlace_cases hg
  · obtain ⟨-, rfl⟩ := h1
    exact .granted room rfl h.records h.interest
  · obtain ⟨-, e, rest, -, rfl⟩ := h1
    have hclaimed := h.kept (.modifyRecord s e.index (f := fun r => { r with claimPending := false }) fun r _ => .same rfl rfl id)
    exact .granted room rfl hclaimed.records hclaimed.interest
  · obtain ⟨-, -, tg, rest, howed, rfl⟩ := h1
    exact .granted room rfl h.records (h.interest.leavePosted howed)
  · obtain ⟨-, -, howed, k, tg, -, rfl⟩ := h1
    exact .granted room rfl h.records (h.interest.markAnnounced howed k)
  · obtain ⟨-, -, -, -, k, i, r, hnext, rfl⟩ := h1
    exact h.grant room lists hnext

theorem ContentKept.checkSweep (s : State) : ContentKept s s.checkSweep := by
  unfold State.checkSweep
  split
  · have hend := ContentKept.withSweep s { s.sweep with inFlight := false, snapshot := none }
    dsimp only
    split
    · exact (hend.trans (.withSweep _ _)).trans (.startSweep _)
    · exact hend
  · exact .refl s

theorem ContentSound.settle {s : State} (lists : ListsExact s) (h : ContentSound s) : ContentSound s.settle := by
  have hboth : ListsExact s.settle ∧ ContentSound s.settle :=
    State.settle_induction (P := fun u => ListsExact u ∧ ContentSound u)
      (fun u hu => ⟨hu.1.kept (.of_eq (by simp) (by simp) (by simp)), hu.2.kept (.checkSweep u)⟩)
      (fun _ _ hg hu => ⟨.grantPlace hg hu.1, .grantPlace hg hu.1 hu.2⟩)
      (fun u hu => ⟨hu.1.kept (.of_eq rfl rfl rfl), hu.2.kept (.of_eq rfl rfl ⟨rfl, rfl, rfl⟩ rfl fun _ => id)⟩) ⟨lists, h⟩
  exact hboth.2

theorem contentSound_reset : ContentSound State.reset := by
  refine .of_vacant State.record?_reset rfl fun _ => ⟨rfl, rfl, fun k n hn => ?_, fun k hk => ?_, fun i r hr => ?_⟩
  · simp [State.reset] at hn
  · simp [State.phase?, State.reset, HandoverUnit.reset] at hk
  · rw [State.record?_reset] at hr
    cases hr

/-- 10 ms of time move timers and waits on, and leave what they time (R20). -/
theorem ContentSound.advance {s : State} (h : ContentSound s) : ContentSound s.advance := by
  refine ⟨h.records, h.interest.advance, fun closed => ?_⟩
  have hs := h.island closed
  refine ⟨?_, hs.refreshOwed, hs.neighbours, fun k hk => hs.noneAsked k ?_, hs.noneQueued⟩
  · show s.ports.link.queue.map _ = []
    rw [hs.queue]
    rfl
  · rw [← hk]
    simp [State.phase?, State.advance, Slot.advance, Function.comp_def, Transaction.advance]

theorem ContentSound.tick {s : State} (pin : s.resetPinLow = false) (h : ContentSound s) : ContentSound s.tick := by
  rw [State.tick_eq pin]
  exact h.advance.kept (.of_eq rfl rfl ⟨rfl, rfl, rfl⟩ rfl fun _ => id)

/-- The table, the lists and the facts, while a step is at work. -/
structure EngineAtWork (s : State) : Prop where
  table : TableAtWork s
  lists : ListsExact s
  content : ContentSound s

theorem EngineAtWork.deed {s t : State} (hd : Deed s t) (h : EngineAtWork s) : EngineAtWork t :=
  ⟨h.table.deed hd, h.lists.deed hd h.table.table, h.content.deed hd h.table.table h.lists⟩

theorem engine_invariant : Invariant EngineSound EngineAtWork where
  start s h := by
    obtain ⟨table, lists, content⟩ := (engineSound_iff s).mp h
    exact ⟨table_invariant.start s table, lists, content⟩
  pending s l h := by
    obtain ⟨table, lists, content⟩ := (engineSound_iff s).mp h
    exact (engineSound_iff _).mpr ⟨table_invariant.pending s l table, lists.kept (.of_eq rfl rfl rfl),
      content.kept (.of_eq rfl rfl ⟨rfl, rfl, rfl⟩ rfl fun _ => id)⟩
  pinLow s h := by
    obtain ⟨table, lists, content⟩ := (engineSound_iff s).mp h
    exact (engineSound_iff _).mpr ⟨table_invariant.pinLow s table, lists.kept (.of_eq rfl rfl rfl),
      content.kept (.of_eq rfl rfl ⟨rfl, rfl, rfl⟩ rfl fun _ => id)⟩
  powerOn l := (engineSound_iff _).mpr ⟨table_invariant.powerOn l, listsExact_reset.kept (.of_eq rfl rfl rfl),
    contentSound_reset.kept (.of_eq rfl rfl ⟨rfl, rfl, rfl⟩ rfl fun _ => id)⟩
  tick s pin h := by
    obtain ⟨table, lists, content⟩ := (engineSound_iff s).mp h
    obtain ⟨-, ticked⟩ := lists_invariant.tick s pin ⟨table.1, lists⟩
    exact (engineSound_iff _).mpr ⟨table_invariant.tick s pin table, ticked, content.tick pin⟩
  deed _ _ := EngineAtWork.deed
  settle s h := (engineSound_iff _).mpr ⟨h.table.settle, h.lists.settle, h.content.settle h.lists⟩
  confirm s p c h := by
    obtain ⟨table, lists, content⟩ := (engineSound_iff s).mp h
    exact (engineSound_iff _).mpr ⟨table_invariant.confirm s p c table, lists.kept (.of_eq (by simp) (by simp) (by simp)),
      content.kept (.setOutbound s _ p)⟩

/-- Settles O60: the lists, the fields of every record, the member counts and the island are one invariant of the changes that a step is
made of. -/
theorem stepKeepsEngineSound : Obligations.StepKeepsEngineSound :=
  fun _ _ sound h => engine_invariant.step h sound

theorem engineSound_reset : EngineSound State.reset :=
  (engineSound_iff _).mpr ⟨⟨tableSound_reset, sweepExact_reset⟩, listsExact_reset, contentSound_reset⟩

/-- Settles O55: the power-on state holds no record, no list and no notice. -/
theorem invariantsHoldAtReset : Obligations.InvariantsHoldAtReset :=
  ⟨settled_reset, engineSound_reset, (rangesSound_iff _).mpr blocksSound_reset⟩

end Sys2Proof.Machine
end

section
/-! PROOF. The machine's own events (log entries 1 to 7, 26): 10 ms of time, power-on and the RESET pin. -/

namespace Sys2Proof.Machine

/-! ## The expiries that are due -/

theorem Timer.expired_iff (t : Timer) : t.expired = true ↔ t.steps = 0 := by simp [Timer.expired]

theorem slotExpiry_eq_some {s : State} {k : Fin 8} {c : Instr} : slotExpiry s k = some c ↔
    ∃ x, s.handover.slots[k].transaction = some x ∧ x.timer.steps = 0 ∧
      (x.phase = .asked ∧ c = .answerTimerExpiry k ∨ (∃ why, x.phase = .held why) ∧ c = .holdTimerExpiry k
        ∨ x.phase = .ordered ∧ c = .claimTimerExpiry k) := by
  unfold slotExpiry
  rw [Option.bind_eq_some_iff]
  refine exists_congr fun x => and_congr_right fun _ => ?_
  rw [← Timer.expired_iff]
  cases x.timer.expired with
  | false => simp
  | true => cases hphase : x.phase <;> simp [eq_comm]

theorem leaveExpiry_eq_some {s : State} {k : Place} {c : Instr} : leaveExpiry s k = some c ↔
    ∃ e x, s.interest.places[k] = some e ∧ e.phase = .leaving x ∧ x.steps = 0 ∧ c = .leaveTimerExpiry e.talkgroup := by
  unfold leaveExpiry
  rw [Option.bind_eq_some_iff]
  refine exists_congr fun e => ?_
  cases hphase : e.phase with
  | joined => simp
  | leaving x =>
    simp only [MapPhase.leaving.injEq, Option.ite_none_right_eq_some, Option.some.injEq, Timer.expired_iff]
    constructor
    · rintro ⟨he, hx, rfl⟩
      exact ⟨x, he, rfl, hx, rfl⟩
    · rintro ⟨_, he, rfl, hx, rfl⟩
      exact ⟨he, hx, rfl⟩

/-- Every expiry that is due, and the visit of a sweep in flight (log entry 3). -/
theorem State.mem_engineEvents {s : State} {c : Instr} : c ∈ s.engineEvents ↔
    (s.sweep.timer.steps = 0 ∧ c = .sweepTimerExpiry)
    ∨ (∃ (k : Fin 8) (x : Transaction), s.handover.slots[k].transaction = some x ∧ x.timer.steps = 0 ∧
      (x.phase = .asked ∧ c = .answerTimerExpiry k ∨ (∃ why, x.phase = .held why) ∧ c = .holdTimerExpiry k
        ∨ x.phase = .ordered ∧ c = .claimTimerExpiry k))
    ∨ (∃ k ∈ s.interest.leaving, ∃ (e : MapEntry) (x : Timer), s.interest.places[k] = some e ∧ e.phase = .leaving x ∧ x.steps = 0
      ∧ c = .leaveTimerExpiry e.talkgroup)
    ∨ (s.sweep.inFlight = true ∧ c = .visit) := by
  have hslots : (∃ k ∈ List.finRange 8, slotExpiry s k = some c) ↔ ∃ k, slotExpiry s k = some c := by simp
  have hone : ∀ (b : Bool) (d : Instr), c ∈ (if b = true then [d] else []) ↔ b = true ∧ c = d := fun b d => by
    cases b <;> simp
  unfold State.engineEvents
  rw [List.mem_append, List.mem_append, List.mem_append, List.mem_filterMap, List.mem_filterMap, hslots, hone, hone, Timer.expired_iff]
  simp only [slotExpiry_eq_some, leaveExpiry_eq_some, or_assoc]

theorem State.engineEvents_kinds {s : State} {c : Instr} (h : c ∈ s.engineEvents) : c = .sweepTimerExpiry ∨ c = .visit
    ∨ (∃ k : Fin 8, c = .answerTimerExpiry k ∨ c = .holdTimerExpiry k ∨ c = .claimTimerExpiry k)
    ∨ ∃ tg : Nat, c = .leaveTimerExpiry tg := by
  rcases State.mem_engineEvents.mp h with ⟨-, h⟩ | ⟨k, x, -, -, h⟩ | ⟨k, -, e, x, -, -, -, h⟩ | ⟨-, h⟩
  · exact Or.inl h
  · exact Or.inr (Or.inr (Or.inl ⟨k, by tauto⟩))
  · exact Or.inr (Or.inr (Or.inr ⟨_, h⟩))
  · exact Or.inr (Or.inl h)

theorem State.mem_engineEvents_sweep (s : State) : Instr.sweepTimerExpiry ∈ s.engineEvents ↔ s.sweep.timer.steps = 0 := by
  simp [State.mem_engineEvents]

theorem State.mem_engineEvents_visit (s : State) : Instr.visit ∈ s.engineEvents ↔ s.sweep.inFlight = true := by
  simp [State.mem_engineEvents]

theorem State.mem_engineEvents_answer (s : State) (k : Fin 8) : Instr.answerTimerExpiry k ∈ s.engineEvents ↔
    (s.handover.slots[k].transaction.any (fun x => x.phase == .asked && x.timer.steps == 0)) = true := by
  rw [Option.any_eq_true]
  simp [State.mem_engineEvents, and_comm, and_left_comm, eq_comm (a := k)]

theorem State.mem_engineEvents_hold (s : State) (k : Fin 8) : Instr.holdTimerExpiry k ∈ s.engineEvents ↔
    (s.handover.slots[k].transaction.any
      (fun x => (x.phase == .held .call || x.phase == .held .room) && x.timer.steps == 0)) = true := by
  have hheld : ∀ p : Phase, (∃ why, p = .held why) ↔ p = .held .call ∨ p = .held .room := fun p => by
    constructor
    · rintro ⟨why, rfl⟩
      cases why <;> simp
    · rintro (rfl | rfl)
      · exact ⟨_, rfl⟩
      · exact ⟨_, rfl⟩
  rw [Option.any_eq_true]
  simp [State.mem_engineEvents, and_comm, eq_comm (a := k), hheld]

theorem State.mem_engineEvents_claim (s : State) (k : Fin 8) : Instr.claimTimerExpiry k ∈ s.engineEvents ↔
    (s.handover.slots[k].transaction.any (fun x => x.phase == .ordered && x.timer.steps == 0)) = true := by
  rw [Option.any_eq_true]
  simp [State.mem_engineEvents, and_comm, and_left_comm, eq_comm (a := k)]

theorem State.mem_engineEvents_leave (s : State) (tg : Nat) : Instr.leaveTimerExpiry tg ∈ s.engineEvents ↔
    ∃ k ∈ s.interest.leaving, ∃ (e : MapEntry) (x : Timer), s.interest.places[k] = some e ∧ e.talkgroup = tg ∧ e.phase = .leaving x
      ∧ x.steps = 0 := by
  rw [State.mem_engineEvents]
  constructor
  · rintro (⟨-, h⟩ | ⟨k, x, -, -, ⟨-, h⟩ | ⟨-, h⟩ | ⟨-, h⟩⟩ | ⟨k, hk, e, x, he, hphase, hsteps, h⟩ | ⟨-, h⟩)
    case inr.inr.inl =>
      cases h
      exact ⟨k, hk, e, x, he, rfl, hphase, hsteps⟩
    all_goals cases h
  · rintro ⟨k, hk, e, x, he, rfl, hphase, hsteps⟩
    exact Or.inr (Or.inr (Or.inl ⟨k, hk, e, x, he, hphase, hsteps, rfl⟩))

/-- The three conditions of the link attention line (R176). -/
theorem linkCondition_iff (queue : List QueuedNotice) (threshold : Threshold) (flushTime : Nat) :
    linkCondition queue threshold flushTime = true ↔ (∃ q ∈ queue, q.notice.urgent = true) ∨ threshold.count ≤ queue.length
      ∨ ∃ q rest, queue = q :: rest ∧ flushTime ≤ q.waited := by
  unfold linkCondition
  cases queue <;> simp [or_assoc]

/-! ## 10 ms of time -/

theorem MapEntry.advance_eq (e : MapEntry) : e.advance = match e.phase with
    | .joined => e
    | .leaving x => { e with phase := .leaving (if x.counted + 1 < 100 then ⟨x.steps, x.counted + 1⟩ else ⟨x.steps - 1, 0⟩) } := rfl

theorem LinkNotice.urgent_iff (n : LinkNotice) : n.urgent = true ↔
    (∃ unit asking target k generation cls seq tgs, n = .ask unit asking target k generation cls seq tgs)
    ∨ (∃ unit asking target k generation, n = .cancel unit asking target k generation)
    ∨ (∃ unit site seq fresh, n = .claim unit site seq fresh)
    ∨ ∃ unit holding seq answered, n = .counterclaim unit holding seq answered := by
  cases n <;> simp [LinkNotice.urgent]

theorem LinkNotice.not_urgent_iff (n : LinkNotice) : n.urgent = false ↔
    (∃ tg site, n = .join tg site) ∨ (∃ tg site, n = .leave tg site) ∨ ∃ site, n = .refresh site := by
  cases n <;> simp [LinkNotice.urgent]

/-- Settles O2: a tick moves every timer and wait on, refreshes the lines, and queues the expiries that are due. -/
theorem idleStepIsTenMilliseconds : Obligations.IdleStepIsTenMilliseconds := by
  refine ⟨fun s idle pin => ?_, LinkNotice.urgent_iff, LinkNotice.not_urgent_iff, rfl, rfl, rfl, rfl⟩
  have hstep : step s = .next { s.advance.refreshLines with pending := s.advance.engineEvents } := by
    unfold step
    rw [idle]
    dsimp only
    rw [State.tick_eq pin, idle, List.nil_append]
  have hlink := linkCondition_iff s.advance.ports.link.queue s.ports.threshold s.selected.flushTime
  refine ⟨_, hstep, rfl, rfl, rfl, rfl, rfl, rfl, pin, rfl, fun k => ?_, rfl, rfl, fun k => ?_, rfl, rfl, ?_, rfl, fun c => ?_, rfl, rfl,
    State.mem_engineEvents_sweep _, State.mem_engineEvents_visit _, State.mem_engineEvents_answer _, State.mem_engineEvents_hold _,
    State.mem_engineEvents_claim _, State.mem_engineEvents_leave _, fun i => State.engineEvents_kinds⟩
  · simp only [State.advance, Slot.advance, State.refreshLines, Fin.getElem_fin, Vector.getElem_map]
    rfl
  · show (mapTable (Option.map MapEntry.advance) s.interest.places)[k] = _
    simp only [Fin.getElem_fin, getElem_mapTable]
    rfl
  · refine hlink.trans (or_congr ?_ (or_congr ?_ ?_))
    · simp [State.advance]
    · simp [State.advance]
    · cases hq : s.ports.link.queue <;> simp [State.advance, hq]
  · simp [State.advance, State.refreshLines, ChannelPort.withLine]

/-! ## Power-on and the RESET pin -/

/-- Settles O3: the power-on state, field by field. -/
theorem powerOnIsEveryBlocksPowerOnState : Obligations.PowerOnIsEveryBlocksPowerOnState := by
  refine ⟨fun _ => rfl, ⟨VisitorTable.reset_free, rfl, State.record?_reset, VisitorTable.reset_chains, rfl⟩, ⟨fun i => ?_, fun g => ?_⟩,
    ⟨rfl, rfl⟩, ⟨fun c => ?_, fun k => ?_⟩, ⟨fun k => ?_, rfl, rfl⟩, ⟨fun k => ?_, rfl, rfl, rfl, rfl⟩,
    ⟨fun c => ?_, rfl, rfl, rfl, rfl⟩, rfl⟩
  · simp [State.reset, ScoringUnit.reset]
  · simp [State.reset, ScoringUnit.reset]
  · simp [State.reset, HandoverUnit.reset]
  · simp [State.reset, HandoverUnit.reset]
  · simp [State.reset, InterestMap.reset]
  · simp [State.reset]
  · simp [State.reset, PortUnit.reset]

/-- Settles O4: the pin's own event touches the port unit only, and every other command tests the pin first. -/
theorem resetPinLowSilencesEngine : Obligations.ResetPinLowSilencesEngine := by
  refine ⟨fun s => ⟨s.pinLow, rfl, rfl, rfl, rfl, fun c => ?_, fun p => ?_, ⟨rfl, rfl, rfl, rfl, rfl, rfl, rfl, rfl, rfl, rfl, rfl⟩⟩,
    fun s pin => ⟨fun c hon hlow => exec_pinLow pin hon hlow, fun idle => ?_⟩⟩
  · simp [State.pinLow]
  · cases p with
    | maintenance => rfl
    | link => rfl
    | channel c => simp [State.outbound, State.pinLow]
  · unfold step
    rw [idle]
    simp [State.tick, pin]

end Sys2Proof.Machine
end

section
/-! PROOF. Frames (11 R187, R188): what a field of a frame is read as, and every request read back from its own frame. -/

namespace Sys2Proof

/-! ## Fields -/

theorem byte_toNat {n : Nat} (h : n < 256) : (BitVec.ofNat 8 n).toNat = n := by
  rw [BitVec.toNat_ofNat]
  exact Nat.mod_eq_of_lt h

theorem two_byte2 {n : Nat} (h : n < 65536) : two (BitVec.ofNat 8 (n / 256)) (BitVec.ofNat 8 n) = n := by
  simp only [two, BitVec.toNat_ofNat]
  omega

theorem three_byte3 {n : Nat} (h : n < 16777216) :
    three (BitVec.ofNat 8 (n / 65536)) (BitVec.ofNat 8 (n / 256)) (BitVec.ofNat 8 n) = n := by
  simp only [three, BitVec.toNat_ofNat]
  omega

theorem bit0_mark (b : Bool) : (BitVec.ofNat 8 b.toNat).getLsbD 0 = b := by cases b <;> rfl

theorem bias_ofInt {b : Int} (h : -128 ≤ b ∧ b ≤ 127) : (BitVec.ofInt 8 b).toInt = b := by
  rw [BitVec.toInt_ofInt]
  exact Int.bmod_eq_of_le (by omega) (by omega)

theorem limitOfWire_getD {o : Option Nat} (h : fitsLimit o = true) : (o.getD 65535 < 65536) ∧ limitOfWire (o.getD 65535) = o := by
  cases o with
  | none => exact ⟨by decide, rfl⟩
  | some n =>
    have hn : n < 65535 := of_decide_eq_true h
    exact ⟨by simp only [Option.getD_some]; omega, by simp only [Option.getD_some, limitOfWire]; rw [if_neg (by omega)]⟩

theorem thresholdOfWire_getD {o : Option Nat} (h : fitsThreshold o = true) :
    (o.getD 255 < 256) ∧ thresholdOfWire (o.getD 255) = o := by
  cases o with
  | none => exact ⟨by decide, rfl⟩
  | some n =>
    have hn : n < 255 := of_decide_eq_true h
    exact ⟨by simp only [Option.getD_some]; omega, by simp only [Option.getD_some, thresholdOfWire]; rw [if_neg (by omega)]⟩

/-! ## Lists of fields -/

theorem length_flatMap_const {α β : Type} {f : α → List β} {n : Nat} (h : ∀ a, (f a).length = n) (l : List α) :
    (l.flatMap f).length = n * l.length := by
  induction l with
  | nil => rfl
  | cons a l ih => rw [List.flatMap_cons, List.length_append, ih, h, List.length_cons]; ring

theorem twos_flatMap {l : List Nat} (h : l.all fitsTwoBytes = true) : twos (l.flatMap byte2) = l := by
  induction l with
  | nil => rfl
  | cons n l ih =>
    rw [List.all_cons, Bool.and_eq_true, decide_eq_true_eq] at h
    obtain ⟨hn, hl⟩ := h
    show two (BitVec.ofNat 8 (n / 256)) (BitVec.ofNat 8 n) :: twos (l.flatMap byte2) = n :: l
    rw [two_byte2 hn, ih hl]

theorem pairs_flatMap {l : List (Nat × Nat)} (h : l.all (fun e => fitsByte e.1 && fitsByte e.2) = true) :
    pairs (l.flatMap (fun e => byte1 e.1 ++ byte1 e.2)) = l := by
  induction l with
  | nil => rfl
  | cons e l ih =>
    rw [List.all_cons, Bool.and_eq_true, Bool.and_eq_true, decide_eq_true_eq, decide_eq_true_eq] at h
    obtain ⟨⟨hb, hc⟩, hl⟩ := h
    show ((BitVec.ofNat 8 e.1).toNat, (BitVec.ofNat 8 e.2).toNat) :: pairs (l.flatMap (fun e => byte1 e.1 ++ byte1 e.2)) = e :: l
    rw [byte_toNat hb, byte_toNat hc, ih hl]

theorem map_toNat_flatMap {l : List Nat} (h : l.all fitsByte = true) : (l.flatMap byte1).map BitVec.toNat = l := by
  induction l with
  | nil => rfl
  | cons n l ih =>
    rw [List.all_cons, Bool.and_eq_true, decide_eq_true_eq] at h
    obtain ⟨hn, hl⟩ := h
    show (BitVec.ofNat 8 n).toNat :: (l.flatMap byte1).map BitVec.toNat = n :: l
    rw [byte_toNat hn, ih hl]

theorem byteOfBits_bitsOfByte (b : Byte) : byteOfBits (b.getLsbD 7) (b.getLsbD 6) (b.getLsbD 5) (b.getLsbD 4) (b.getLsbD 3) (b.getLsbD 2)
    (b.getLsbD 1) (b.getLsbD 0) = b := by
  revert b
  decide

theorem bytesOfBits_bitsOfBytes (l : List Byte) : bytesOfBits (bitsOfBytes l) = l := by
  induction l with
  | nil => rfl
  | cons b l ih =>
    show byteOfBits _ _ _ _ _ _ _ _ :: bytesOfBits (bitsOfBytes l) = b :: l
    rw [byteOfBits_bitsOfByte, ih]

/-! ## Kinds and bodies -/

theorem Kind.ofCode_code (k : Kind) : Kind.ofCode k.code = some k := by cases k <;> rfl

theorem Kind.code_lt (k : Kind) : k.code < 256 := by cases k <;> decide

theorem Request.length_body {r : Request} (h : r.wf = true) : r.body.length < 256 := by
  have htwo : ∀ l : List Nat, (l.flatMap byte2).length = 2 * l.length := length_flatMap_const fun _ => rfl
  cases r with
  | register f =>
    simp only [Request.wf, RegisterFields.wf, talkgroupsFit, Bool.and_eq_true, decide_eq_true_eq, Config.maxTalkgroupCount] at h
    simp only [Request.body, List.length_append, htwo, byte1, byte3, byteOfMark, List.length_cons, List.length_nil]
    omega
  | askIn f =>
    simp only [Request.wf, AskFields.wf, talkgroupsFit, Bool.and_eq_true, decide_eq_true_eq, Config.maxTalkgroupCount] at h
    simp only [Request.body, List.length_append, htwo, byte1, byte2, byte3, List.length_cons, List.length_nil]
    omega
  | loadLevelTable start entries =>
    simp only [Request.wf, levelEntriesFit, Bool.and_eq_true, decide_eq_true_eq] at h
    have hlength : (entries.flatMap (fun e => byte1 e.1 ++ byte1 e.2)).length = 2 * entries.length := by
      exact length_flatMap_const (fun _ => by rfl) entries
    simp only [Request.body, List.length_append, hlength]
    simp only [byte1, List.length_cons, List.length_nil]
    omega
  | loadErrorTable start entries =>
    simp only [Request.wf, errorEntriesFit, Bool.and_eq_true, decide_eq_true_eq] at h
    have hlength : (entries.flatMap byte1).length = 1 * entries.length := by
      exact length_flatMap_const (fun _ => by rfl) entries
    simp only [Request.body, List.length_append, hlength, byte1, List.length_cons, List.length_nil]
    omega
  | _ => simp [Request.body, byte1, byte2, byte3, byteOfMark]

theorem decodeBody_body {r : Request} (h : r.wf = true) : decodeBody r.kind r.body = some r := by
  have htwo : ∀ l : List Nat, (l.flatMap byte2).length = 2 * l.length := length_flatMap_const fun _ => rfl
  cases r with
  | register f =>
    simp only [Request.wf, RegisterFields.wf, talkgroupsFit, Bool.and_eq_true, decide_eq_true_eq] at h
    obtain ⟨⟨⟨⟨⟨hunit, hcls⟩, hseq⟩, hattenuation⟩, hgrade⟩, hcount, hids⟩ := h
    have hlength : f.talkgroups.length < 256 := hcount.trans_lt (by decide)
    show (if (BitVec.ofNat 8 f.talkgroups.length).toNat ≤ Config.maxTalkgroupCount ∧
        (f.talkgroups.flatMap byte2).length = 2 * (BitVec.ofNat 8 f.talkgroups.length).toNat then
      some (Request.register ⟨three _ _ _, BitVec.toNat _, BitVec.toNat _, BitVec.getLsbD _ 0, BitVec.toNat _, BitVec.toNat _,
        twos (f.talkgroups.flatMap byte2)⟩) else none) = _
    rw [byte_toNat hlength, htwo, if_pos ⟨hcount, rfl⟩, three_byte3 hunit, byte_toNat hcls, byte_toNat hseq, byte_toNat hattenuation,
      byte_toNat hgrade, twos_flatMap hids, bit0_mark]
  | askIn f =>
    simp only [Request.wf, AskFields.wf, talkgroupsFit, Bool.and_eq_true, decide_eq_true_eq] at h
    obtain ⟨⟨⟨⟨hunit, horigin⟩, hcls⟩, hseq⟩, hcount, hids⟩ := h
    have hlength : f.talkgroups.length < 256 := hcount.trans_lt (by decide)
    show (if (BitVec.ofNat 8 f.talkgroups.length).toNat ≤ Config.maxTalkgroupCount ∧
        (f.talkgroups.flatMap byte2).length = 2 * (BitVec.ofNat 8 f.talkgroups.length).toNat then
      some (Request.askIn ⟨three _ _ _, two _ _, BitVec.toNat _, BitVec.toNat _, twos (f.talkgroups.flatMap byte2)⟩) else none) = _
    rw [byte_toNat hlength, htwo, if_pos ⟨hcount, rfl⟩, three_byte3 hunit, two_byte2 horigin, byte_toNat hcls, byte_toNat hseq,
      twos_flatMap hids]
  | measure f =>
    simp only [Request.wf, MeasureFields.wf, Bool.and_eq_true, decide_eq_true_eq] at h
    obtain ⟨⟨⟨⟨hunit, hsource⟩, hsite⟩, hattenuation⟩, hgrade⟩ := h
    show (some (Request.measure ⟨three _ _ _, BitVec.toNat _, two _ _, BitVec.toNat _, BitVec.toNat _⟩)) = _
    rw [three_byte3 hunit, two_byte2 hsite, byte_toNat hsource, byte_toNat hattenuation, byte_toNat hgrade]
  | claimIn f =>
    simp only [Request.wf, ClaimFields.wf, Bool.and_eq_true, decide_eq_true_eq] at h
    obtain ⟨⟨hunit, hsite⟩, hseq⟩ := h
    show (some (Request.claimIn ⟨three _ _ _, two _ _, BitVec.toNat _, BitVec.getLsbD _ 0⟩)) = _
    rw [three_byte3 hunit, two_byte2 hsite, byte_toNat hseq, bit0_mark]
  | answer f =>
    simp only [Request.wf, AnswerFields.wf, Bool.and_eq_true, decide_eq_true_eq] at h
    obtain ⟨⟨⟨⟨hslot, hgeneration⟩, hunit⟩, hsite⟩, hanswer⟩ := h
    show (some (Request.answer ⟨BitVec.toNat _, BitVec.toNat _, three _ _ _, two _ _, BitVec.toNat _⟩)) = _
    rw [three_byte3 hunit, two_byte2 hsite, byte_toNat hslot, byte_toNat hgeneration, byte_toNat hanswer]
  | loadLevelTable start entries =>
    simp only [Request.wf, levelEntriesFit, Bool.and_eq_true, decide_eq_true_eq] at h
    obtain ⟨hstart, hcount, hentries⟩ := h
    have hlength : (entries.flatMap (fun e => byte1 e.1 ++ byte1 e.2)).length = 2 * entries.length := by
      exact length_flatMap_const (fun _ => by rfl) entries
    have hpairs := pairs_flatMap hentries
    show (if (entries.flatMap (fun e => byte1 e.1 ++ byte1 e.2)).length = 2 * (BitVec.ofNat 8 entries.length).toNat then
      some (Request.loadLevelTable (BitVec.toNat _) (pairs (entries.flatMap (fun e => byte1 e.1 ++ byte1 e.2)))) else none) = _
    rw [byte_toNat (by omega), hlength, if_pos rfl, byte_toNat hstart, hpairs]
  | loadErrorTable start entries =>
    simp only [Request.wf, errorEntriesFit, Bool.and_eq_true, decide_eq_true_eq] at h
    obtain ⟨hstart, hcount, hentries⟩ := h
    have hlength : (entries.flatMap byte1).length = 1 * entries.length := by
      exact length_flatMap_const (fun _ => by rfl) entries
    have hmap := map_toNat_flatMap hentries
    show (if (entries.flatMap byte1).length = (BitVec.ofNat 8 entries.length).toNat then
      some (Request.loadErrorTable (BitVec.toNat _) (List.map BitVec.toNat (entries.flatMap byte1))) else none) = _
    rw [byte_toNat (by omega), hlength, if_pos (Nat.one_mul _), byte_toNat hstart, hmap]
  | setNeighbour slot site bias =>
    simp only [Request.wf, Bool.and_eq_true, decide_eq_true_eq] at h
    obtain ⟨⟨hslot, hsite⟩, hbias⟩ := h
    show (some (Request.setNeighbour (BitVec.toNat _) (two _ _) (BitVec.toInt _))) = _
    rw [byte_toNat hslot, two_byte2 hsite, bias_ofInt hbias]
  | setLimits f =>
    simp only [Request.wf, LimitsFields.wf, Bool.and_eq_true] at h
    obtain ⟨⟨hreserve, hallowance⟩, hthreshold⟩ := h
    obtain ⟨hr, hreserve⟩ := limitOfWire_getD hreserve
    obtain ⟨ha, hallowance⟩ := limitOfWire_getD hallowance
    obtain ⟨ht, hthreshold⟩ := thresholdOfWire_getD hthreshold
    show (some (Request.setLimits ⟨limitOfWire (two _ _), limitOfWire (two _ _), thresholdOfWire (BitVec.toNat _)⟩)) = _
    rw [two_byte2 hr, two_byte2 ha, byte_toNat ht, hreserve, hallowance, hthreshold]
  | linkStatus site state =>
    simp only [Request.wf, Bool.and_eq_true, decide_eq_true_eq] at h
    show (some (Request.linkStatus (two _ _) (BitVec.toNat _))) = _
    rw [two_byte2 h.1, byte_toNat h.2]
  | setProfileField profile code value =>
    simp only [Request.wf, Bool.and_eq_true, decide_eq_true_eq] at h
    obtain ⟨⟨hprofile, hcode⟩, hvalue⟩ := h
    show (some (Request.setProfileField (BitVec.toNat _) (BitVec.toNat _) (two _ _))) = _
    rw [two_byte2 hvalue, byte_toNat hprofile, byte_toNat hcode]
  | siteReset force =>
    show (some (Request.siteReset (BitVec.getLsbD _ 0))) = _
    rw [bit0_mark]
  | fetch n => exact congrArg (fun m => some (Request.fetch m)) (byte_toNat (of_decide_eq_true h))
  | unmute n => exact congrArg (fun m => some (Request.unmute m)) (byte_toNat (of_decide_eq_true h))
  | forceClose n => exact congrArg (fun m => some (Request.forceClose m)) (byte_toNat (of_decide_eq_true h))
  | setSite n => exact congrArg (fun m => some (Request.setSite m)) (two_byte2 (of_decide_eq_true h))
  | deregister n => exact congrArg (fun m => some (Request.deregister m)) (three_byte3 (of_decide_eq_true h))
  | callStart n => exact congrArg (fun m => some (Request.callStart m)) (three_byte3 (of_decide_eq_true h))
  | callEnd n => exact congrArg (fun m => some (Request.callEnd m)) (three_byte3 (of_decide_eq_true h))
  | readRecord n => exact congrArg (fun m => some (Request.readRecord m)) (three_byte3 (of_decide_eq_true h))
  | _ => rfl

theorem decodeFrame_frame {r : Request} (h : r.wf = true) : decodeFrame r.frame = some r := by
  show (if r.body.length = (BitVec.ofNat 8 r.body.length).toNat then _ else _) = _
  rw [byte_toNat (Request.length_body h), if_pos rfl, byte_toNat r.kind.code_lt, Kind.ofCode_code]
  exact decodeBody_body h

end Sys2Proof
end

section
/-! PROOF. The codes and the frames of R187 and R188. -/

namespace Sys2Proof.Machine

/-! ## Codes -/

theorem kindCodes : KindCodes := by
  unfold KindCodes
  refine ⟨by decide, fun n hn => ?_⟩
  rw [Kind.ofCode, List.find?_eq_none]
  intro k _ hk
  refine hn ?_
  rw [← beq_iff_eq.mp hk]
  cases k <;> decide

theorem operandCodes : OperandCodes := by
  refine ⟨by decide, ⟨rfl, rfl, rfl⟩, ⟨rfl, rfl⟩, ⟨rfl, rfl, rfl, rfl⟩, fun n => ⟨fun h => ⟨?_, ?_⟩, fun h => ?_, fun h => ?_⟩⟩
  · match n, h with
    | n + 4, _ => rfl
  · match n, h with
    | n + 4, _ => rfl
  · match n, h with
    | n + 3, _ => rfl
  · match n, h with
    | n + 2, _ => rfl

/-- A frame is its kind code, the length of its body and its body (R187). -/
theorem frame_eq {r : Request} {n : Nat} (h : r.body.length = n) : r.frame = byte1 r.kind.code ++ byte1 n ++ r.body := by
  rw [Request.frame, h]

theorem requestFrames : RequestFrames := by
  have htwo : ∀ l : List Nat, (l.flatMap byte2).length = 2 * l.length := length_flatMap_const fun _ => rfl
  have hpair : ∀ l : List (Nat × Nat), (l.flatMap (fun e => byte1 e.1 ++ byte1 e.2)).length = 2 * l.length :=
    length_flatMap_const fun _ => rfl
  have hone : ∀ l : List Nat, (l.flatMap byte1).length = l.length := fun l =>
    (length_flatMap_const (n := 1) (fun _ => rfl) l).trans (Nat.one_mul _)
  have hmark : ∀ b : Bool, byteOfMark b = byte1 (if b = true then 1 else 0) := fun b => by cases b <;> rfl
  refine ⟨fun f => ?_, fun f => rfl, fun f => ?_, fun f => ?_, fun f => rfl, fun _ _ _ => rfl, fun f => rfl, fun start entries => ?_,
    fun start entries => ?_, fun _ _ => rfl, fun _ _ _ => rfl, fun _ => ⟨rfl, rfl, rfl, rfl⟩, fun _ => ⟨rfl, rfl, rfl, rfl⟩,
    fun _ => ⟨rfl, rfl, rfl⟩, fun force => ?_, rfl, rfl, rfl, rfl, rfl⟩
  · have hlength : (Request.register f).body.length = 9 + 2 * f.talkgroups.length := by
      show (_ ++ f.talkgroups.flatMap byte2).length = _
      rw [List.length_append, htwo]
      rfl
    rw [frame_eq hlength, Request.body, hmark]
    simp only [Request.kind, Kind.code, List.append_assoc]
  · rw [frame_eq (n := 7) rfl, Request.body, hmark]
    simp only [Request.kind, Kind.code, List.append_assoc]
  · have hlength : (Request.askIn f).body.length = 8 + 2 * f.talkgroups.length := by
      show (_ ++ f.talkgroups.flatMap byte2).length = _
      rw [List.length_append, htwo]
      rfl
    rw [frame_eq hlength, Request.body]
    simp only [Request.kind, Kind.code, List.append_assoc]
  · have hlength : (Request.loadLevelTable start entries).body.length = 2 + 2 * entries.length := by
      show (_ ++ entries.flatMap (fun e => byte1 e.1 ++ byte1 e.2)).length = _
      rw [List.length_append, hpair]
      rfl
    rw [frame_eq hlength, Request.body]
    simp only [Request.kind, Kind.code, List.append_assoc]
  · have hlength : (Request.loadErrorTable start entries).body.length = 2 + entries.length := by
      show (_ ++ entries.flatMap byte1).length = _
      rw [List.length_append, hone]
      rfl
    rw [frame_eq hlength, Request.body]
    simp only [Request.kind, Kind.code, List.append_assoc]
  · cases force <;> rfl

/-- Settles O5: each field of a body is read back as it was written, and the length byte admits the body. -/
theorem encodedRequestDecodes : Obligations.EncodedRequestDecodes := by
  refine ⟨fun r h => ?_, requestFrames, kindCodes, operandCodes⟩
  rw [bytesOfBits_bitsOfBytes]
  exact decodeFrame_frame h

end Sys2Proof.Machine
end

section
/-! PROOF. Step 1 of the order of checks (11 R167, R168, R187): raw frames. -/

namespace Sys2Proof.Machine

theorem decodeFrame_bytes {bits : List Bool} {r : Request} (h : decodeFrame (bytesOfBits bits) = some r) :
    ∃ (kind : Byte) (rest : List Byte), bytesOfBits bits = kind :: rest := by
  cases hb : bytesOfBits bits with
  | nil => rw [hb] at h; cases h
  | cons kind rest => exact ⟨kind, rest, rfl⟩

/-- A frame that decodes is served as the request it carries (R188). -/
theorem exec_format_of_decodes {bits : List Bool} {r : Request} (h : decodeFrame (bytesOfBits bits) = some r) (p : Port) (s : State) :
    exec (.format p bits false) s = exec (r.command p) s := by
  obtain ⟨kind, rest, hbytes⟩ := decodeFrame_bytes h
  show execFormat p bits false s = _
  unfold execFormat
  split
  next pin => exact (exec_pinLow pin (by cases r <;> nofun) (by cases r <;> nofun)).symm
  next =>
    rw [hbytes]
    dsimp only
    rw [if_neg Bool.false_ne_true, ← hbytes, h]
    exact serveRequest_eq p r s

/-- Every command that carries a request is a request, with its own checks of size, lock and range (R168). -/
theorem exec_command_is_request (r : Request) (p : Port) (s : State) : ∃ (sized locked inRange : Bool) (own : State → Served),
    exec (r.command p) s = request r.kind p sized locked inRange own s := by
  cases r <;> exact ⟨_, _, _, _, rfl⟩

theorem exec_command_next (r : Request) (p : Port) (s : State) : ∃ t, exec (r.command p) s = .next t := by
  obtain ⟨sized, locked, inRange, own, h⟩ := exec_command_is_request r p s
  rw [h]
  exact request_next _ _ _ _ _ _ s

/-- Settles O6: what a frame decodes to is served as its command, and every request ends its step. -/
theorem frameIsServedAsItsRequest : Obligations.FrameIsServedAsItsRequest := by
  have hserved : ∀ (bits : List Bool) (r : Request) (p : Port) (s : State), decodeFrame (bytesOfBits bits) = some r →
      exec (.format p bits false) s = exec (r.command p) s ∧ ∃ t, exec (.format p bits false) s = .next t := fun bits r p s h => by
    have hexec := exec_format_of_decodes h p s
    exact ⟨hexec, hexec ▸ exec_command_next r p s⟩
  refine ⟨fun r p s hwf => hserved _ r p s ?_, hserved⟩
  rw [bytesOfBits_bitsOfBytes]
  exact decodeFrame_frame hwf

theorem refuseFormat_eq {s : State} (hs : Settled s) (p : Port) (kind : Byte) :
    refuseFormat p kind s = .next (s.confirm p ⟨kind.toNat, .refused .format⟩) :=
  congrArg _ (Served.finish_of_settled (r := s.refuse .format) hs)

/-- Settles O7: FORMAT is tested before anything else, and a waiting confirmation refuses every kind alike. -/
theorem badFrameIsRefusedFormat : Obligations.BadFrameIsRefusedFormat := by
  refine ⟨fun p bits early s hs pin => ⟨fun kind rest hbytes hbad => ?_, fun hbytes => ?_⟩, fun r p s hs pin hline => ?_⟩
  · show execFormat p bits early s = _
    unfold execFormat
    rw [pin, if_neg Bool.false_ne_true, hbytes]
    dsimp only
    rcases hbad with rfl | hnone
    · exact refuseFormat_eq hs p kind
    · rw [hnone]
      dsimp only
      split
      · exact refuseFormat_eq hs p kind
      · exact refuseFormat_eq hs p kind
  · show execFormat p bits early s = _
    unfold execFormat
    rw [pin, if_neg Bool.false_ne_true, hbytes]
  · obtain ⟨sized, locked, inRange, own, h⟩ := exec_command_is_request r p s
    rw [h]
    exact request_refused_early hs pin (by simp [State.earlyRefusal, hline])

end Sys2Proof.Machine
end

section
/-! PROOF. Step 4 of the order of checks (10 R168 to R170): a counted request mutes its port or raises its chatter count. -/

namespace Sys2Proof.Machine

/-- A counted kind on an OPEN channel port with a free line passes steps 1 to 3 (R166, R168). -/
theorem State.earlyRefusal_counted {s : State} {k : Kind} {c : Fin 4} (line : s.outbound (.channel c) = []) (counted : k ∈ countedKinds)
    (opened : s.ports.channels[c].state = .opened) : s.earlyRefusal k (.channel c) true = none := by
  have hsub : countedKinds ⊆ admittedKinds (.channel 0) := by decide
  have hadmitted : k ∈ admittedKinds (.channel c) := hsub counted
  rw [State.earlyRefusal_admitted line hadmitted]
  have hstate : s.portState (.channel c) = .opened := opened
  rw [hstate]
  rfl

theorem State.chatterTest_reached {s : State} {k : Kind} {c : Fin 4} (counted : k ∈ countedKinds)
    (reached : s.ports.allowance ≤ s.ports.channels[c].chatter) : s.chatterTest k (.channel c) =
      ((s.modifyChannel c (fun p => { p with state := .muted })).raiseAlarm (.portMuted c) (c.val + 1), false) := by
  unfold State.chatterTest
  rw [if_pos ((kindCounted_iff k).mpr counted)]
  dsimp only
  rw [State.countChatter, if_neg (Nat.not_lt.mpr reached)]

theorem State.chatterTest_below {s : State} {k : Kind} {c : Fin 4} (counted : k ∈ countedKinds)
    (below : s.ports.channels[c].chatter < s.ports.allowance) : s.chatterTest k (.channel c) = (s.chattered c, true) := by
  unfold State.chatterTest
  rw [if_pos ((kindCounted_iff k).mpr counted)]
  dsimp only
  rw [State.countChatter, if_pos below]
  rfl

/-- Settles O9: the test of step 4 mutes the port and raises the alarm, and neither gives the arbiter anything to grant. -/
theorem allowanceReachedMutesPort : Obligations.AllowanceReachedMutesPort := by
  intro r c s hs pin line hwf counted opened reached
  obtain ⟨locked, inRange, own, hexec⟩ := exec_command_eq_request hwf (.channel c) s
  have hchecked : s.checked r.kind (.channel c) true locked inRange own =
      State.refuse ((s.modifyChannel c (fun p => { p with state := .muted })).raiseAlarm (.portMuted c) (c.val + 1)) .muted := by
    unfold State.checked
    rw [State.earlyRefusal_counted line counted opened]
    dsimp only
    rw [State.chatterTest_reached counted reached]
    rfl
  have hsettle := hs.settle_same (t := (s.modifyChannel c (fun p => { p with state := .muted })).raiseAlarm (.portMuted c) (c.val + 1))
    ⟨rfl, rfl⟩ ⟨rfl, rfl, rfl⟩ rfl rfl rfl (fun _ => rfl)
  rw [hexec, request, pin, if_neg Bool.false_ne_true, hchecked]
  exact congrArg _ (Served.finish_const_eq_reply rfl hsettle r.kind (.channel c))

/-! ## What the counted requests leave of the port's count -/

/-- A channel port keeps its state and its chatter count, and the sweep its parity. -/
structure ChatterKept (c : Fin 4) (s t : State) : Prop where
  state : t.ports.channels[c].state = s.ports.channels[c].state
  chatter : t.ports.channels[c].chatter = s.ports.channels[c].chatter
  parity : t.sweep.parity = s.sweep.parity

theorem ChatterKept.of_eq {c : Fin 4} {s t : State} (channels : t.ports.channels = s.ports.channels) (sweep : t.sweep = s.sweep) :
    ChatterKept c s t := ⟨by rw [channels], by rw [channels], by rw [sweep]⟩

theorem ChatterKept.refl (c : Fin 4) (s : State) : ChatterKept c s s := ⟨rfl, rfl, rfl⟩

theorem ChatterKept.trans {c : Fin 4} {a b d : State} (h : ChatterKept c a b) (g : ChatterKept c b d) : ChatterKept c a d :=
  ⟨g.state.trans h.state, g.chatter.trans h.chatter, g.parity.trans h.parity⟩

theorem ChatterKept.failWithCancel (c : Fin 4) (s : State) (k : Fin 8) (cooldown : Bool) :
    ChatterKept c s (s.failWithCancel k cooldown).1 := by
  have hcancel : ChatterKept c s (s.offerCancel k).1 := by
    rw [State.offerCancel_frame]
    exact .of_eq rfl rfl
  have hfail : ∀ u : State, ChatterKept c u (u.failTransaction k cooldown) := fun u =>
    .of_eq (by rw [State.failTransaction_ports]) (by rw [State.failTransaction_sweep])
  exact hcancel.trans (hfail _)

theorem ChatterKept.postChannel (c d : Fin 4) (s : State) (n : ChannelNotice) : ChatterKept c s (s.postChannel d n) := by
  have hport : (s.postChannel d n).ports.channels[c] =
      if c = d then { s.ports.channels[d] with queue := s.ports.channels[d].queue ++ [n] } else s.ports.channels[c] :=
    getElem_set_fin s.ports.channels d c _
  refine ⟨?_, ?_, rfl⟩
  · rw [hport]
    split
    next h => rw [h]
    next => rfl
  · rw [hport]
    split
    next h => rw [h]
    next => rfl

theorem ChatterKept.moveAttempt (c : Fin 4) (s : State) (k : Fin 8) : ChatterKept c s (s.moveAttempt k).1 := by
  unfold State.moveAttempt
  split
  · exact .refl c s
  · split
    · exact .refl c s
    · split
      · exact .failWithCancel c s k true
      · split
        · exact .failWithCancel c s k true
        · split
          · exact .of_eq rfl rfl
          · split
            · exact .of_eq rfl rfl
            · exact (ChatterKept.postChannel c _ s _).trans (.of_eq rfl rfl)

theorem ChatterKept.heard (c : Fin 4) (s : State) (i : Index) (r : Record) : ChatterKept c s ((s.markHeard i).reactivate i r) := by
  have hheard : ChatterKept c s (s.markHeard i) := .of_eq rfl rfl
  unfold State.reactivate
  split
  · have hcounted : ChatterKept c (s.markHeard i) ((s.markHeard i).countTalkgroups r.unit r.talkgroups).1 := by
      rw [State.countTalkgroups_eq]
      exact .of_eq rfl rfl
    exact (hheard.trans hcounted).trans (.of_eq rfl rfl)
  · exact hheard

theorem ChatterKept.measureService (c : Fin 4) (f : MeasureFields) (s : State) : ChatterKept c s (measureService f s).1 := by
  unfold Machine.measureService
  split
  next => exact .refl c s
  next i r _ =>
    refine (ChatterKept.heard c s i r).trans ?_
    generalize (s.markHeard i).reactivate i r = u
    unfold applySample
    dsimp only
    split
    · exact .of_eq rfl rfl
    · split
      · exact .refl c u
      · split
        · exact .refl c u
        · exact .of_eq rfl rfl

theorem ChatterKept.markCall (c : Fin 4) (s : State) (i : Index) (r : Record) (inCall : Bool) :
    ChatterKept c s (s.markCall i r inCall) := by
  have hcall : ChatterKept c s (s.modifyRecord i (fun r => { r with inCall := inCall })) := .of_eq rfl rfl
  exact hcall.trans (.heard c _ i r)

theorem ChatterKept.callStartService (c : Fin 4) (unit : Nat) (s : State) : ChatterKept c s (callStartService unit s).1 := by
  unfold Machine.callStartService
  split
  next => exact .refl c s
  next i r _ => exact .markCall c s i r true

theorem ChatterKept.callEndService (c : Fin 4) (unit : Nat) (s : State) : ChatterKept c s (callEndService unit s).1 := by
  unfold Machine.callEndService
  split
  next => exact .refl c s
  next i r _ =>
    refine (ChatterKept.markCall c s i r false).trans ?_
    dsimp only
    generalize s.markCall i r false = u
    unfold State.callEnded
    split
    · exact .moveAttempt c u _
    · exact .refl c u

theorem ChatterKept.accept (c d : Fin 4) (s : State) (f : RegisterFields) (i : Index) (old : List Nat) (claim : Bool)
    (registration : Registration) (cancel : Option Fate) : ChatterKept c s (s.accept d f i old claim registration cancel).1 := by
  rw [State.accept_fst]
  have hclass : ∀ cls, ChatterKept c s (s.changeClass i cls) := fun cls => by
    unfold State.changeClass
    split
    · exact .refl c s
    · dsimp only
      split
      · exact .of_eq rfl rfl
      · exact .of_eq rfl rfl
  have hwritten : ChatterKept c s (s.written d f i old claim) := by
    refine (hclass ((RadioClass.ofCode f.cls).getD .general)).trans ?_
    unfold State.written
    generalize s.changeClass i ((RadioClass.ofCode f.cls).getD .general) = u
    have hset : ∀ v : State, ChatterKept c v (v.setTalkgroups i f.unit old (requestedList f.talkgroups)) := fun v => by
      unfold State.setTalkgroups
      dsimp only
      have hleft : ∀ l, ChatterKept c v (v.uncountTalkgroups l) := fun _ => .of_eq rfl rfl
      have hjoined : ∀ (w : State) (l : List Nat), ChatterKept c w (w.countTalkgroups f.unit l).1 := fun w l => by
        rw [State.countTalkgroups_eq]
        exact .of_eq rfl rfl
      have hstored : ∀ (w : State) (g : Record → Record), ChatterKept c w (w.modifyRecord i g) := fun _ _ => .of_eq rfl rfl
      exact ((hleft _).trans (hjoined _ _)).trans (hstored _ _)
    have howe : ∀ v : State, ChatterKept c v (v.oweClaim i f.fresh) := fun v => by
      rw [State.oweClaim_eq]
      exact .of_eq rfl rfl
    have hfields : ChatterKept c u (((u.modifyRecord i (fun r => { r with serving := some d })).applyUplink i
      (s.scored f.attenuation f.grade)).markHeard i) := .of_eq rfl rfl
    dsimp only
    split
    · exact (hfields.trans (hset _)).trans (howe _)
    · exact hfields.trans (hset _)
  refine hwritten.trans ?_
  unfold State.refreshHeld
  split
  · exact .moveAttempt c _ _
  · exact .refl c _

theorem ChatterKept.allocate {c : Fin 4} {s t : State} {unit seq : Nat} {cls : RadioClass} {state : RecordState} {i : Index}
    (given : s.allocate unit cls seq state = some (t, i)) : ChatterKept c s t := by
  rcases State.allocate_of_vacant given with ⟨rest, -, rfl⟩ | ⟨r, hr, -, rfl⟩
  · exact .of_eq rfl rfl
  · have hdetach : ChatterKept c s (s.detach i) := by
      rw [State.detach_eq hr, SweepUnit.forget_eq]
      exact ⟨rfl, rfl, rfl⟩
    exact hdetach.trans (.of_eq rfl rfl)

theorem ChatterKept.registerService (c d : Fin 4) (f : RegisterFields) (s : State) : ChatterKept c s (registerService f s d).1 := by
  unfold Machine.registerService
  split
  next =>
    unfold registerNew
    split
    next => exact .of_eq rfl rfl
    next t i given => exact (ChatterKept.allocate given).trans (.accept c d t f i _ _ _ _)
  next i r _ =>
    have hmodify : ∀ g : Record → Record, ChatterKept c s (s.modifyRecord i g) := fun _ => .of_eq rfl rfl
    split
    · exact (hmodify _).trans (.accept c d _ f i _ _ _ _)
    · unfold registerActive
      split
      · exact .accept c d s f i _ _ _ _
      · exact (hmodify _).trans (.accept c d _ f i _ _ _ _)
      · exact .refl c s
    · unfold registerTransit
      split
      · exact .accept c d s f i _ _ _ _
      · have hsupersede : ChatterKept c s (s.supersede r).1 := by
          unfold State.supersede
          split
          · exact .failWithCancel c s _ false
          · exact .refl c s
        exact (hsupersede.trans (.of_eq (t := (s.supersede r).1.storeSeq i f.seq) rfl rfl)).trans (.accept c d _ f i _ _ _ _)
      · exact .refl c s
    · exact (hmodify _).trans (.accept c d _ f i _ _ _ _)

theorem ChatterKept.confirm (c : Fin 4) (s : State) (p : Port) (k : Confirmation) : ChatterKept c s (s.confirm p k) := by
  cases p with
  | maintenance => exact .of_eq rfl rfl
  | link => exact .of_eq rfl rfl
  | channel d =>
    have hport : (s.confirm (.channel d) k).ports.channels[c] = if c = d then
        { s.ports.channels[d] with outbound := s.outbound (.channel d) ++ [k] } else s.ports.channels[c] :=
      getElem_set_fin s.ports.channels d c _
    refine ⟨?_, ?_, rfl⟩
    · rw [hport]
      split
      next h => rw [h]
      next => rfl
    · rw [hport]
      split
      next h => rw [h]
      next => rfl

/-- Every service of a counted kind leaves the chatter counts as step 4 left them (R169). -/
theorem ChatterKept.service {r : Request} {c : Fin 4} {s : State} (hwf : r.wf = true) (counted : r.kind ∈ countedKinds) :
    ∃ (locked inRange : Bool) (own : State → Served), exec (r.command (.channel c)) s =
      request r.kind (.channel c) true locked inRange own s
      ∧ ∀ u, ChatterKept c u (own u).1 := by
  cases r with
  | register f =>
    refine ⟨false, RegisterFields.inRange f, fun s => Machine.onChannel (.channel c) s (Machine.registerService f s), ?_,
      fun u => .registerService c c f u⟩
    rw [← RegisterFields.countFits_of_wf hwf]
    rfl
  | measure f => exact ⟨_, _, _, rfl, fun u => .measureService c f u⟩
  | callStart unit => exact ⟨_, _, _, rfl, fun u => .callStartService c unit u⟩
  | callEnd unit => exact ⟨_, _, _, rfl, fun u => .callEndService c unit u⟩
  | _ => simp [Request.kind, countedKinds] at counted

/-- The end of a step keeps a chatter count unless a sweep starts in it (R71, R75). -/
theorem State.settle_chatter {s : State} (parity : s.settle.sweep.parity = s.sweep.parity) (c : Fin 4) :
    s.settle.ports.channels[c].chatter = s.ports.channels[c].chatter := by
  have hgrants := s.checkSweep.kept_runArbiter
  obtain ⟨hsweep, hchatter⟩ := hgrants.sweep s.checkSweep_alive
  obtain ⟨hlines, hlineChatter⟩ := s.checkSweep.runArbiter.kept_refreshLines.sweep (by rw [hsweep]; exact s.checkSweep_alive)
  have hcheck : s.checkSweep.sweep.parity = s.sweep.parity := by rw [← parity, State.settle, hlines, hsweep]
  refine ((hlineChatter c).trans (hchatter c)).trans ?_
  unfold State.checkSweep at hcheck ⊢
  split
  next h =>
    rw [if_pos h] at hcheck
    dsimp only at hcheck ⊢
    split
    next hdue =>
      rw [if_pos hdue] at hcheck
      have hflip : ∀ u : State, u.startSweep.sweep.parity = u.sweep.parity.flip := fun u => by
        unfold State.startSweep
        dsimp only
        split <;> rfl
      rw [hflip] at hcheck
      have hne : ∀ p : Parity, p.flip ≠ p := fun p => by cases p <;> decide
      exact absurd hcheck (hne s.sweep.parity)
    next => rfl
  next => rfl

/-- Settles O10: step 4 counts the request, its service keeps the count, and the end of the step does unless a sweep starts. -/
theorem countedRequestRaisesChatter : Obligations.CountedRequestRaisesChatter := by
  intro r c s pin line hwf counted opened below
  obtain ⟨locked, inRange, own, hexec, hown⟩ := ChatterKept.service (c := c) (s := s) hwf counted
  have hchatter : ∃ u f, exec (r.command (.channel c)) s = .next (Served.finish (u, f) r.kind.code (.channel c))
      ∧ ChatterKept c (s.chattered c) u := by
    rw [hexec, request, pin, if_neg Bool.false_ne_true, State.checked, State.earlyRefusal_counted line counted opened]
    dsimp only
    rw [State.chatterTest_below counted below]
    dsimp only
    rw [if_pos rfl]
    split
    · exact ⟨_, _, rfl, .refl c _⟩
    · exact ⟨_, _, rfl, hown _⟩
  obtain ⟨u, f, hnext, hkept⟩ := hchatter
  have hraised : (s.chattered c).ports.channels[c] = { s.ports.channels[c] with chatter := s.ports.channels[c].chatter + 1 } := by
    simp [State.chattered, State.modifyChannel]
  have hconfirm := ChatterKept.confirm c u.settle (.channel c) ⟨r.kind.code, f u.settle⟩
  refine ⟨_, hnext, ?_, fun parity => ?_⟩
  · exact hconfirm.state.trans ((u.kept_settle.channelState c).trans (hkept.state.trans (by rw [hraised]; exact opened)))
  · have hsettle : u.settle.sweep.parity = u.sweep.parity := (hconfirm.parity.symm.trans parity).trans hkept.parity.symm
    exact hconfirm.chatter.trans ((State.settle_chatter hsettle c).trans (hkept.chatter.trans (by rw [hraised])))

end Sys2Proof.Machine
end

section
/-! PROOF. Steps 5 to 7 of the order of checks (09 R168), and what a request that passes them ends in. -/

namespace Sys2Proof.Machine

/-! ## A request through its checks -/

/-- A channel port whose queue and attention line stay as they are leaves a settled state settled. -/
theorem Settled.modifyChannel {s : State} (h : Settled s) (c : Fin 4) {f : ChannelPort → ChannelPort}
    (queue : ∀ p, (f p).queue = p.queue) (line : ∀ p, (f p).attention = p.attention) : Settled (s.modifyChannel c f) := by
  obtain ⟨hm, hl, hc⟩ := State.refreshLines_eq_iff.mp h.lines
  refine h.of_same ⟨rfl, rfl⟩ ⟨rfl, rfl, rfl⟩ rfl rfl rfl (fun _ => rfl) (State.refreshLines_eq_iff.mpr ⟨hm, hl, fun d => ?_⟩)
  have hport : (s.modifyChannel c f).ports.channels[d] = if d = c then f s.ports.channels[c] else s.ports.channels[d] :=
    getElem_set_fin s.ports.channels c d _
  rw [hport]
  split
  next hd => rw [queue, line]; exact hc c
  next => exact hc d

theorem Settled.chattered {s : State} (h : Settled s) (c : Fin 4) : Settled (s.chattered c) :=
  h.modifyChannel c (fun _ => rfl) fun _ => rfl

/-- A request that is served changes the state to one where the end of the step recomputes the lines only (R160). -/
theorem request_reply {s u : State} {k : Kind} {p : Port} {own : State → Served} {reply : Reply} (h : Passes s k p)
    (uncounted : kindCounted k = false) (served : own s = (u, fun _ => reply)) (lines : u.settle = u.refreshLines) :
    request k p true false true own s = .next (u.reply p k reply) := by
  rw [request_passes h uncounted]
  exact congrArg _ (Served.finish_const_eq_reply served lines k p)

theorem request_reply_counted {s u : State} {k : Kind} {c : Fin 4} {own : State → Served} {reply : Reply} (h : Passes s k (.channel c))
    (counted : kindCounted k = true) (served : own (s.chattered c) = (u, fun _ => reply)) (lines : u.settle = u.refreshLines) :
    request k (.channel c) true false true own s = .next (u.reply (.channel c) k reply) := by
  rw [request_passes_counted h counted]
  exact congrArg _ (Served.finish_const_eq_reply served lines k _)

/-- A request that is served without a change only confirms. -/
theorem request_confirm {s : State} {k : Kind} {p : Port} {own : State → Served} {reply : Reply} (hs : Settled s) (h : Passes s k p)
    (uncounted : kindCounted k = false) (served : own s = (s, fun _ => reply)) :
    request k p true false true own s = .next (s.confirm p ⟨k.code, reply⟩) := by
  rw [request_passes h uncounted, served]
  exact congrArg _ (Served.finish_of_settled (r := (s, fun _ => reply)) hs)

theorem request_confirm_counted {s : State} {k : Kind} {c : Fin 4} {own : State → Served} {reply : Reply} (hs : Settled s)
    (h : Passes s k (.channel c)) (counted : kindCounted k = true) (served : own (s.chattered c) = (s.chattered c, fun _ => reply)) :
    request k (.channel c) true false true own s = .next ((s.chattered c).confirm (.channel c) ⟨k.code, reply⟩) := by
  rw [request_passes_counted h counted, served]
  exact congrArg _ (Served.finish_of_settled (r := (s.chattered c, fun _ => reply)) (hs.chattered c))

/-- A request that is served with a reply known beforehand. -/
theorem request_upToGrants {s u : State} {k : Kind} {p : Port} {own : State → Served} {reply : Reply} (h : Passes s k p)
    (uncounted : kindCounted k = false) (served : own s = (u, fun _ => reply)) :
    ∃ t, request k p true false true own s = .next t ∧ UpToGrants (u.confirm p ⟨k.code, reply⟩) t :=
  ⟨_, request_passes h uncounted, Served.finish_const_upToGrants served k.code p⟩

theorem request_upToGrants_counted {s u : State} {k : Kind} {c : Fin 4} {own : State → Served} {reply : Reply}
    (h : Passes s k (.channel c)) (counted : kindCounted k = true) (served : own (s.chattered c) = (u, fun _ => reply)) :
    ∃ t, request k (.channel c) true false true own s = .next t ∧ UpToGrants (u.confirm (.channel c) ⟨k.code, reply⟩) t :=
  ⟨_, request_passes_counted h counted, Served.finish_const_upToGrants served k.code _⟩

theorem request_refuses_range {s : State} {k : Kind} {p : Port} {own : State → Served} (hs : Settled s) (h : Passes s k p)
    (uncounted : kindCounted k = false) : request k p true false false own s = .next (s.confirm p ⟨k.code, .refused .range⟩) := by
  rw [request_out_of_range h uncounted]
  exact congrArg _ (Served.finish_of_settled (r := s.refuse .range) hs)

theorem request_refuses_range_counted {s : State} {k : Kind} {c : Fin 4} {own : State → Served} (hs : Settled s)
    (h : Passes s k (.channel c)) (counted : kindCounted k = true) :
    request k (.channel c) true false false own s = .next ((s.chattered c).confirm (.channel c) ⟨k.code, .refused .range⟩) := by
  rw [request_out_of_range_counted h counted]
  exact congrArg _ (Served.finish_of_settled (r := (s.chattered c).refuse .range) (hs.chattered c))

/-! ## Step 6: locks -/

/-- A request of the maintenance port that step 6 finds locked changes nothing (R168, R179). -/
theorem request_refuses_locked {s : State} {k : Kind} {locked inRange : Bool} {own : State → Served} (hs : Settled s)
    (pin : s.resetPinLow = false) (line : s.outbound .maintenance = []) (role : k ∈ admittedKinds .maintenance)
    (lock : (s.kindLocked k || locked) = true) :
    request k .maintenance true locked inRange own s = .next (s.confirm .maintenance ⟨k.code, .refused .locked⟩) := by
  have hearly : s.earlyRefusal k .maintenance true = none := by rw [State.earlyRefusal_admitted line role]; rfl
  have hopen : (k == .openPort) = false := by
    cases k with
    | openPort => cases (show Kind.openPort ∉ admittedKinds .maintenance by decide) role
    | _ => rfl
  have hcounted : kindCounted k = false := by
    cases k with
    | register => cases (show Kind.register ∉ admittedKinds .maintenance by decide) role
    | measure => cases (show Kind.measure ∉ admittedKinds .maintenance by decide) role
    | callStart => cases (show Kind.callStart ∉ admittedKinds .maintenance by decide) role
    | callEnd => cases (show Kind.callEnd ∉ admittedKinds .maintenance by decide) role
    | _ => rfl
  have hlate : s.lateRefusal k .maintenance locked inRange = some .locked := by
    unfold State.lateRefusal
    rw [hopen, lock]
    rfl
  have hchecked : s.checked k .maintenance true locked inRange own = s.refuse .locked := by
    unfold State.checked
    rw [hearly, State.chatterTest_uncounted hcounted]
    dsimp only
    rw [if_pos rfl, hlate]
  rw [request, pin, if_neg Bool.false_ne_true, hchecked]
  exact congrArg _ (Served.finish_of_settled (r := s.refuse .locked) hs)

/-- Settles O11: the group's effective lock stands, or SITE RESET lacks the force mark. -/
theorem lockedGroupRefuses : Obligations.LockedGroupRefuses := by
  intro r s hs pin line hwf hlocked
  have hgroup : r.kind ∈ admittedKinds .maintenance → s.kindLocked r.kind = true →
      exec (r.command .maintenance) s = .next (s.confirm .maintenance ⟨r.kind.code, .refused .locked⟩) := fun role lock => by
    obtain ⟨locked, inRange, own, hexec⟩ := exec_command_eq_request hwf .maintenance s
    rw [hexec]
    exact request_refuses_locked hs pin line role (by rw [lock, Bool.true_or])
  have heffective := s.effectiveLocks_eq
  rcases hlocked with ⟨hkind, hlock⟩ | ⟨hkind, hlock⟩ | ⟨hkind, hlock⟩ | ⟨hkind, hlock⟩ | ⟨rfl, hincident⟩
  · have htables : s.effectiveLocks.tables = true := by rw [heffective]; simpa using hlock
    rcases hkind with hkind | hkind
    · exact hgroup (by rw [hkind]; decide) (by rw [hkind]; exact htables)
    · exact hgroup (by rw [hkind]; decide) (by rw [hkind]; exact htables)
  · have hprofiles : s.effectiveLocks.profiles = true := by rw [heffective]; simpa using hlock
    exact hgroup (by rw [hkind]; decide) (by rw [hkind]; exact hprofiles)
  · have hneighbours : s.effectiveLocks.neighbours = true := by rw [heffective]; simpa using hlock
    exact hgroup (by rw [hkind]; decide) (by rw [hkind]; exact hneighbours)
  · have hlimits : s.effectiveLocks.limits = true := by rw [heffective]; simpa using hlock
    exact hgroup (by rw [hkind]; decide) (by rw [hkind]; exact hlimits)
  · have hforce : exec (.siteReset .maintenance false) s = request .siteReset .maintenance true (s.profiles.incident && !false) true
        (fun s => (s.siteReset, fun _ => siteResetReply false s)) s := rfl
    exact hforce.trans (request_refuses_locked hs pin line (by decide) (by rw [hincident]; rfl))

/-! ## Step 7: ranges -/

theorem unitInRange_eq_false {n : Nat} : unitInRange n = false ↔ NoRadio n := by
  simp only [unitInRange, Config.maxUnit, decide_eq_false_iff_not, NoRadio]
  omega

theorem siteInRange_eq_false {n : Nat} : siteInRange n = false ↔ NoSite n := by
  simp only [siteInRange, Config.maxSite, decide_eq_false_iff_not, NoSite]
  omega

theorem fitsSequence_eq_false {n : Nat} : fitsSequence n = false ↔ 15 < n := by
  simp [fitsSequence]

theorem RadioClass.ofCode_eq_none {n : Nat} (h : 3 < n) : RadioClass.ofCode n = none := (operandCodes.2.2.2.2 n).1 h |>.1

theorem Threshold.ofCode_eq_none {n : Nat} (h : 3 < n) : Threshold.ofCode n = none := (operandCodes.2.2.2.2 n).1 h |>.2

theorem LinkState.ofCode_eq_none {n : Nat} (h : 2 < n) : LinkState.ofCode n = none := (operandCodes.2.2.2.2 n).2.1 h

theorem ProfileName.ofCode_eq_none {n : Nat} (h : 1 < n) : ProfileName.ofCode n = none := (operandCodes.2.2.2.2 n).2.2 h

theorem channelOfNumber_eq_none {n : Nat} (h : n = 0 ∨ 4 < n) : channelOfNumber n = none := dif_neg (by omega)

theorem closablePort_eq_none {n : Nat} (h : n = 0 ∨ 5 < n) : closablePort n = none := by
  rw [closablePort, if_neg (by omega), channelOfNumber_eq_none (by omega), Option.map_none]

theorem loadInRange_eq_false {size start count : Nat} (positive : 0 < size)
    (h : count = 0 ∨ 8 < count ∨ size - 1 < start ∨ size - 1 < start + count - 1) : loadInRange size start count = false := by
  simp only [loadInRange, decide_eq_false_iff_not]
  omega

theorem LockGroups.isEmpty_ofByte {groups : Byte} (h : ∀ b < 4, groups.getLsbD b = false) : (LockGroups.ofByte groups).isEmpty = true := by
  rw [LockGroups.ofByte, h 0 (by decide), h 1 (by decide), h 2 (by decide), h 3 (by decide)]
  rfl

theorem LimitsFields.inRange_eq_false {f : LimitsFields}
    (h : (f.reserve = none ∧ f.allowance = none ∧ f.threshold = none) ∨ ∃ code ∈ f.threshold, 3 < code) :
    LimitsFields.inRange f = false := by
  rcases h with ⟨hreserve, hallowance, hthreshold⟩ | ⟨code, hcode, hlarge⟩
  · simp [LimitsFields.inRange, hreserve, hallowance, hthreshold]
  · have hthreshold : f.threshold = some code := hcode
    simp [LimitsFields.inRange, hthreshold, Threshold.ofCode_eq_none hlarge]

theorem State.neighbourInRange_eq_false {s : State} {slot site : Nat} (sound : NeighboursSound s)
    (h : 11 < slot ∨ 1023 < site ∨ (site ≠ 0 ∧ site = s.protection.site)
      ∨ ∃ (k : Fin 12) (n : Neighbour), s.neighbours[k] = some n ∧ n.site = site ∧ k.val ≠ slot) :
    s.neighbourInRange slot site = false := by
  unfold State.neighbourInRange
  rcases h with hslot | hsite | ⟨hzero, hown⟩ | ⟨k, n, hn, hsite, hother⟩
  · rw [decide_eq_false (by omega : ¬slot ≤ 11), Bool.false_and, Bool.false_and]
  · rw [decide_eq_false (by simp only [Config.maxSite]; omega : ¬site ≤ Config.maxSite), Bool.and_false, Bool.false_and]
  · simp [hown, hown ▸ hzero]
  · have hrange := (sound.inRange k n hn).1
    have hzero : site ≠ 0 := by
      rw [← hsite]
      rintro h0
      rw [h0] at hrange
      cases hrange
    cases hfound : s.neighbourSlot? site with
    | none => exact absurd hsite (State.neighbourSlot?_eq_none.mp hfound k n hn)
    | some j =>
      obtain ⟨m, hm, hmsite⟩ := State.neighbourSlot?_eq_some hfound
      have hjk : j = k := sound.distinct j k m n hm hn (hmsite.trans hsite.symm)
      simp [hzero, hjk, hother]

theorem State.siteSettable_eq_false {s : State} {site : Nat}
    (h : NoSite site ∨ ∃ (k : Fin 12) (n : Neighbour), s.neighbours[k] = some n ∧ n.site = site) : s.siteSettable site = false := by
  unfold State.siteSettable
  rcases h with hsite | ⟨k, n, hn, hsite⟩
  · rw [siteInRange_eq_false.mpr hsite, Bool.false_and]
  · cases hfound : s.neighbourSlot? site with
    | none => exact absurd hsite (State.neighbourSlot?_eq_none.mp hfound k n hn)
    | some j => rw [Option.isNone_some, Bool.and_false]

/-- A talkgroup count that the frame admits (R188). -/
def requestCountFits : Request → Bool
  | .register f => Machine.countFits f.talkgroups
  | .askIn f => Machine.countFits f.talkgroups
  | _ => true

theorem requestCountFits_of_wf {r : Request} (h : r.wf = true) : requestCountFits r = true := by
  cases r with
  | register f => exact RegisterFields.countFits_of_wf h
  | askIn f => exact AskFields.countFits_of_wf h
  | _ => rfl

/-- What R168 calls out of range is what the kind's own range test refuses. -/
theorem exec_command_of_outOfRange {r : Request} {s : State} (sized : requestCountFits r = true)
    (sound : r.kind = .setNeighbour → NeighboursSound s) (h : s.outOfRange r) (p : Port) :
    ∃ own, exec (r.command p) s = request r.kind p true false false own s := by
  have hrequest : ∀ (k : Kind) (inRange : Bool) (own : State → Served), inRange = false →
      ∃ own', request k p true false inRange own s = request k p true false false own' s := fun k inRange own hrange =>
        ⟨own, by rw [hrange]⟩
  have hsized : ∀ (k : Kind) (tgs : List Nat) (inRange : Bool) (own : State → Served), Machine.countFits tgs = true → inRange = false →
      ∃ own', request k p (Machine.countFits tgs) false inRange own s = request k p true false false own' s :=
    fun k tgs inRange own hcount hrange => ⟨own, by rw [hcount, hrange]⟩
  cases r with
  | register f =>
    refine hsized _ _ _ _ sized ?_
    rcases h with h | h | h
    · rw [RegisterFields.inRange, unitInRange_eq_false.mpr h, Bool.false_and, Bool.false_and]
    · rw [RegisterFields.inRange, RadioClass.ofCode_eq_none h, Option.isSome_none, Bool.and_false, Bool.false_and]
    · rw [RegisterFields.inRange, fitsSequence_eq_false.mpr h, Bool.and_false]
  | deregister unit => exact hrequest _ _ _ (unitInRange_eq_false.mpr h)
  | callStart unit => exact hrequest _ _ _ (unitInRange_eq_false.mpr h)
  | callEnd unit => exact hrequest _ _ _ (unitInRange_eq_false.mpr h)
  | readRecord unit => exact hrequest _ _ _ (unitInRange_eq_false.mpr h)
  | measure f =>
    refine hrequest _ _ _ ?_
    rw [MeasureFields.inRange]
    rcases h with h | h | ⟨hsource, hsite⟩
    · rw [unitInRange_eq_false.mpr h, Bool.false_and]
    · have hzero : (f.source == 0) = false := by rw [beq_eq_false_iff_ne]; omega
      have hone : (f.source == 1) = false := by rw [beq_eq_false_iff_ne]; omega
      rw [hzero, hone, Bool.false_or, Bool.false_and, Bool.and_false]
    · rw [hsource, siteInRange_eq_false.mpr hsite]
      simp
  | claimIn f =>
    refine hrequest _ _ _ ?_
    rw [ClaimFields.inRange]
    rcases h with h | h | h | h
    · simp [unitInRange_eq_false.mpr h]
    · simp [siteInRange_eq_false.mpr h]
    · simp [h]
    · simp [fitsSequence_eq_false.mpr h]
  | askIn f =>
    refine hsized _ _ _ _ sized ?_
    rw [AskFields.inRange]
    rcases h with h | h | h | h | h
    · simp [unitInRange_eq_false.mpr h]
    · simp [siteInRange_eq_false.mpr h]
    · simp [h]
    · simp [RadioClass.ofCode_eq_none h]
    · simp [fitsSequence_eq_false.mpr h]
  | answer f =>
    refine hrequest _ _ _ ?_
    rw [AnswerFields.inRange]
    rcases h with h | h | h | h | h
    · simp [Nat.not_le.mpr h]
    · simp [fitsSequence_eq_false.mpr h]
    · simp [unitInRange_eq_false.mpr h]
    · simp [siteInRange_eq_false.mpr h]
    · simp [Nat.not_le.mpr h]
  | linkStatus site link =>
    refine hrequest _ _ _ ?_
    rw [linkStatusInRange]
    rcases h with h | h | h
    · simp [siteInRange_eq_false.mpr h]
    · simp [h]
    · simp [LinkState.ofCode_eq_none h]
  | setProfileField profile code value =>
    refine hrequest _ _ _ ?_
    rw [profileFieldInRange]
    rcases h with h | h
    · rw [ProfileName.ofCode_eq_none h, Option.isSome_none, Bool.false_and]
    · rw [decide_eq_false (by omega), Bool.and_false]
  | loadLevelTable start entries => exact hrequest _ _ _ (loadInRange_eq_false (by decide) h)
  | loadErrorTable start entries => exact hrequest _ _ _ (loadInRange_eq_false (by decide) h)
  | setNeighbour slot site bias => exact hrequest _ _ _ (State.neighbourInRange_eq_false (sound rfl) h)
  | setLimits f => exact hrequest _ _ _ (LimitsFields.inRange_eq_false h)
  | setSite site => exact hrequest _ _ _ (State.siteSettable_eq_false h)
  | lock groups => exact hrequest _ _ _ (by rw [LockGroups.isEmpty_ofByte h]; rfl)
  | unlock groups => exact hrequest _ _ _ (by rw [LockGroups.isEmpty_ofByte h]; rfl)
  | unmute port => exact hrequest _ _ _ (by rw [channelOfNumber_eq_none h]; rfl)
  | forceClose port => exact hrequest _ _ _ (by rw [closablePort_eq_none h]; rfl)
  | fetch _ => exact h.elim
  | openPort => exact h.elim
  | closePort => exact h.elim
  | setIncidentLocks _ => exact h.elim
  | declareIncident => exact h.elim
  | standDown => exact h.elim
  | siteReset _ => exact h.elim
  | siteStatus => exact h.elim

/-- A request out of range is refused RANGE at step 7, uncounted kinds and counted ones (R168, R169). -/
theorem exec_refuses_range {r : Request} {s : State} (hs : Settled s) (sized : requestCountFits r = true)
    (sound : r.kind = .setNeighbour → NeighboursSound s) (h : s.outOfRange r) :
    (∀ p : Port, Passes s r.kind p → r.kind ∉ countedKinds →
      exec (r.command p) s = .next (s.confirm p ⟨r.kind.code, .refused .range⟩))
    ∧ ∀ c : Fin 4, Passes s r.kind (.channel c) → r.kind ∈ countedKinds →
      exec (r.command (.channel c)) s = .next ((s.chattered c).confirm (.channel c) ⟨r.kind.code, .refused .range⟩) := by
  refine ⟨fun p pass uncounted => ?_, fun c pass counted => ?_⟩
  · obtain ⟨own, hexec⟩ := exec_command_of_outOfRange sized sound h p
    rw [hexec]
    exact request_refuses_range hs pass (by rw [← Bool.not_eq_true, kindCounted_iff]; exact uncounted)
  · obtain ⟨own, hexec⟩ := exec_command_of_outOfRange sized sound h (.channel c)
    rw [hexec]
    exact request_refuses_range_counted hs pass ((kindCounted_iff _).mpr counted)

theorem countFits_iff (l : List Nat) : countFits l = true ↔ l.length ≤ 15 := by simp [countFits, Config.maxTalkgroupCount]

/-- Settles O12: each clause is a request out of range. -/
theorem unitOutOfRangeIsRefused : Obligations.UnitOutOfRangeIsRefused := by
  intro unit s c hs hunit
  have hno : NoRadio unit := by unfold NoRadio; omega
  refine ⟨?_, ?_, fun f hf pass => ?_, fun f hf hcount pass => ?_, fun f hf pass => ?_, ?_, ?_, fun f hf pass => ?_,
    fun f hf hcount pass => ?_, fun r hwf sound hr => ?_⟩
  · intro pass
    exact (exec_refuses_range (r := .deregister unit) hs rfl nofun hno).1 _ pass (show Kind.deregister ∉ countedKinds by decide)
  · intro pass
    exact (exec_refuses_range (r := .readRecord unit) hs rfl nofun hno).1 _ pass (show Kind.readRecord ∉ countedKinds by decide)
  · subst hf
    exact (exec_refuses_range (r := .claimIn f) hs rfl nofun (Or.inl hno)).1 _ pass (show Kind.claimIn ∉ countedKinds by decide)
  · subst hf
    exact (exec_refuses_range (r := .askIn f) hs ((countFits_iff _).mpr hcount) nofun (Or.inl hno)).1 _ pass
      (show Kind.askIn ∉ countedKinds by decide)
  · subst hf
    exact (exec_refuses_range (r := .answer f) hs rfl nofun (Or.inr (Or.inr (Or.inl hno)))).1 _ pass
      (show Kind.answer ∉ countedKinds by decide)
  · intro pass
    exact (exec_refuses_range (r := .callStart unit) hs rfl nofun hno).2 c pass (show Kind.callStart ∈ countedKinds by decide)
  · intro pass
    exact (exec_refuses_range (r := .callEnd unit) hs rfl nofun hno).2 c pass (show Kind.callEnd ∈ countedKinds by decide)
  · subst hf
    exact (exec_refuses_range (r := .measure f) hs rfl nofun (Or.inl hno)).2 c pass (show Kind.measure ∈ countedKinds by decide)
  · subst hf
    exact (exec_refuses_range (r := .register f) hs ((countFits_iff _).mpr hcount) nofun (Or.inl hno)).2 c pass
      (show Kind.register ∈ countedKinds by decide)
  · obtain ⟨huncounted, hcounted⟩ := exec_refuses_range hs (requestCountFits_of_wf hwf) (fun _ => sound) hr
    exact ⟨huncounted, hcounted c⟩

/-! ## Lookups -/

theorem unitInRange_iff {n : Nat} : unitInRange n = true ↔ NamesRadio n := by simp [unitInRange, Config.maxUnit]

theorem siteInRange_iff {n : Nat} : siteInRange n = true ↔ 1 ≤ n ∧ n ≤ 1023 := by simp [siteInRange, Config.maxSite]

theorem exec_deregister {unit : Nat} (h : NamesRadio unit) (p : Port) (s : State) : exec (.deregister p unit) s =
    request .deregister p true false true (fun s => onChannel p s fun _ => deregisterService unit s) s := by
  show request .deregister p true false (unitInRange unit) _ s = _
  rw [unitInRange_iff.mpr h]

theorem exec_readRecord {unit : Nat} (h : NamesRadio unit) (p : Port) (s : State) : exec (.readRecord p unit) s =
    request .readRecord p true false true (readRecordService unit) s := by
  show request .readRecord p true false (unitInRange unit) _ s = _
  rw [unitInRange_iff.mpr h]

theorem exec_callStart {unit : Nat} (h : NamesRadio unit) (p : Port) (s : State) : exec (.callStart p unit) s =
    request .callStart p true false true (fun s => onChannel p s fun _ => callStartService unit s) s := by
  show request .callStart p true false (unitInRange unit) _ s = _
  rw [unitInRange_iff.mpr h]

theorem exec_callEnd {unit : Nat} (h : NamesRadio unit) (p : Port) (s : State) : exec (.callEnd p unit) s =
    request .callEnd p true false true (fun s => onChannel p s fun _ => callEndService unit s) s := by
  show request .callEnd p true false (unitInRange unit) _ s = _
  rw [unitInRange_iff.mpr h]

theorem exec_measure {f : MeasureFields} (h : NamesRadio f.unit) (source : f.source = 0 ∨ f.source = 1 ∧ 1 ≤ f.site ∧ f.site ≤ 1023)
    (p : Port) (s : State) : exec (.measure p f) s =
      request .measure p true false true (fun s => onChannel p s fun _ => measureService f s) s := by
  have hrange : MeasureFields.inRange f = true := by
    rw [MeasureFields.inRange, unitInRange_iff.mpr h, Bool.true_and]
    rcases source with hsource | ⟨hsource, hsite⟩
    · rw [hsource]
      rfl
    · rw [hsource, siteInRange_iff.mpr hsite]
      rfl
  show request .measure p true false (MeasureFields.inRange f) _ s = _
  rw [hrange]

/-- Settles O13: the lookup reads one chain of a sound table, and the five services refuse what it does not find. -/
theorem unknownUnitIsRefused : Obligations.UnknownUnitIsRefused := by
  refine ⟨fun unit s sound => ⟨sound.find_iff unit, sound.find_eq_none_iff unit⟩, fun unit s c hs hunit hnone => ⟨fun pass => ?_,
    fun pass => ?_, fun pass => ?_, fun pass => ?_, fun f hf source pass => ?_⟩⟩
  · rw [exec_deregister hunit]
    exact request_confirm hs pass rfl (by simp only [onChannel, deregisterService, hnone]; rfl)
  · rw [exec_readRecord hunit]
    exact request_confirm hs pass rfl (by simp only [readRecordService, hnone]; rfl)
  · rw [exec_callStart hunit]
    exact request_confirm_counted hs pass rfl (by simp only [onChannel, callStartService, State.find_chattered, hnone]; rfl)
  · rw [exec_callEnd hunit]
    exact request_confirm_counted hs pass rfl (by simp only [onChannel, callEndService, State.find_chattered, hnone]; rfl)
  · subst hf
    rw [exec_measure hunit source]
    exact request_confirm_counted hs pass rfl (by simp only [onChannel, measureService, State.find_chattered, hnone]; rfl)

end Sys2Proof.Machine
end

section
/-! PROOF. The requests of the port unit that act on one channel port (09 R163 to R165), the outbound line (R160), and the bytes of
confirmations and notices (11 R189 to R191). -/

namespace Sys2Proof.Machine

/-! ## CLOSE and UNMUTE -/

theorem channelOfNumber_succ (c : Fin 4) : channelOfNumber (c.val + 1) = some c := by
  rw [channelOfNumber, dif_pos ⟨by omega, by omega⟩]
  rfl

theorem closablePort_add_two (c : Fin 4) : closablePort (c.val + 2) = some (.channel c) := by
  rw [closablePort, if_neg (by omega), show c.val + 2 - 1 = c.val + 1 from rfl, channelOfNumber_succ, Option.map_some]

/-- Settles O17: a port closed gives the arbiter nothing to grant. -/
theorem closeClosesChannelPort : Obligations.CloseClosesChannelPort := by
  intro c s hs
  have hlines : (s.modifyChannel c (fun p => { p with state := .closed, queue := [] })).settle =
      (s.modifyChannel c (fun p => { p with state := .closed, queue := [] })).refreshLines :=
    hs.settle_same ⟨rfl, rfl⟩ ⟨rfl, rfl, rfl⟩ rfl rfl rfl fun _ => rfl
  refine ⟨fun pass => ?_, fun pass => ⟨?_, fun n hn => ?_⟩⟩
  · exact request_reply (own := closePort (.channel c) .closePort) pass rfl rfl hlines
  · show request .forceClose .maintenance true false (closablePort (c.val + 2)).isSome (forceCloseService (c.val + 2)) s = _
    rw [closablePort_add_two]
    exact request_reply pass rfl (by rw [forceCloseService, closablePort_add_two]; rfl) hlines
  · exact (exec_refuses_range (r := .forceClose n) hs rfl nofun hn).1 _ pass (show Kind.forceClose ∉ countedKinds by decide)

theorem ChannelPort.unmuted_eq (p : ChannelPort) : p.unmuted =
    { p with state := if p.state = .muted then .opened else p.state, chatter := if p.state = .closed then p.chatter else 0 } := by
  obtain ⟨state, chatter, queue, attention, outbound⟩ := p
  cases state with
  | closed => rfl
  | opened => rfl
  | muted => rfl

/-- Settles O19: the three cases of the port state are one update of the port. -/
theorem unmuteActsByPortState : Obligations.UnmuteActsByPortState := by
  intro s hs pass
  refine ⟨fun c => ?_, fun n hn => ?_⟩
  · have hport : (fun p : ChannelPort =>
        { p with state := if p.state = .muted then .opened else p.state, chatter := if p.state = .closed then p.chatter else 0 }) =
          ChannelPort.unmuted := funext fun p => p.unmuted_eq.symm
    rw [hport]
    show request .unmute .maintenance true false (channelOfNumber (c.val + 1)).isSome (unmuteService (c.val + 1)) s = _
    rw [channelOfNumber_succ]
    exact request_reply pass rfl (by rw [unmuteService, channelOfNumber_succ])
      (hs.settle_same ⟨rfl, rfl⟩ ⟨rfl, rfl, rfl⟩ rfl rfl rfl fun _ => rfl)
  · exact (exec_refuses_range (r := .unmute n) hs rfl nofun hn).1 _ pass (show Kind.unmute ∉ countedKinds by decide)

/-! ## The outbound line -/

/-- The outbound line of a port is nothing that the end of a step reads. -/
theorem Settled.setOutbound {s : State} (h : Settled s) (l : List Confirmation) (p : Port) : Settled (s.setOutbound l p) := by
  cases p with
  | channel c => exact h.modifyChannel (f := fun p => { p with outbound := l }) c (fun _ => rfl) fun _ => rfl
  | maintenance =>
    obtain ⟨hm, hl, hc⟩ := State.refreshLines_eq_iff.mp h.lines
    exact h.of_same ⟨rfl, rfl⟩ ⟨rfl, rfl, rfl⟩ rfl rfl rfl (fun _ => rfl) (State.refreshLines_eq_iff.mpr ⟨hm, hl, hc⟩)
  | link =>
    obtain ⟨hm, hl, hc⟩ := State.refreshLines_eq_iff.mp h.lines
    exact h.of_same ⟨rfl, rfl⟩ ⟨rfl, rfl, rfl⟩ rfl rfl rfl (fun _ => rfl) (State.refreshLines_eq_iff.mpr ⟨hm, hl, hc⟩)

theorem State.outbound_setOutbound_same (s : State) (l : List Confirmation) (p : Port) : (s.setOutbound l p).outbound p = l := by
  cases p with
  | maintenance => rfl
  | link => rfl
  | channel c => simp [State.setOutbound, State.outbound, State.modifyChannel]

theorem State.outbound_setOutbound_other (s : State) (l : List Confirmation) {p q : Port} (h : q ≠ p) :
    (s.setOutbound l p).outbound q = s.outbound q := by
  cases p with
  | maintenance =>
    cases q with
    | maintenance => exact absurd rfl h
    | link => rfl
    | channel d => rfl
  | link =>
    cases q with
    | maintenance => rfl
    | link => exact absurd rfl h
    | channel d => rfl
  | channel c =>
    cases q with
    | maintenance => rfl
    | link => rfl
    | channel d =>
      have hcd : d ≠ c := fun heq => h (congrArg Port.channel heq)
      have hport : (s.setOutbound l (.channel c)).ports.channels[d] =
          if d = c then { s.ports.channels[c] with outbound := l } else s.ports.channels[d] := getElem_set_fin s.ports.channels c d _
      exact congrArg ChannelPort.outbound (hport.trans (if_neg hcd))

/-! ## Bytes -/

theorem confirmationBytes : ConfirmationBytes := by
  intro kind
  refine ⟨fun w hw => ?_, fun seq => rfl, fun m hm adjusted result => ?_⟩
  · fin_cases hw <;> rfl
  · have hbody : (Reply.done adjusted m.1 result).body kind =
        byte1 0 ++ byte1 ((if adjusted = true then 1 else 0) + 2 * m.2) ++ result.bytes kind := by
      have hcode : effectCode m.1 = m.2 := by fin_cases hm <;> rfl
      rw [Reply.body, hcode]
      cases adjusted <;> rfl
    have hlength : ((Reply.done adjusted m.1 result).body kind).length = 2 + (result.bytes kind).length := by
      rw [hbody, List.length_append]
      rfl
    rw [Confirmation.bytes, hlength, hbody]
    simp only [List.append_assoc]

theorem noticeBytes : NoticeBytes := by
  have hmark : ∀ b : Bool, byteOfMark b = byte1 (if b = true then 1 else 0) := fun b => by cases b <;> rfl
  have htwo : ∀ l : List Nat, (l.flatMap byte2).length = 2 * l.length := length_flatMap_const fun _ => rfl
  refine ⟨fun _ _ _ _ => ?_, fun _ => rfl, fun c hc unit asking target generation seq k tgs => ?_, fun _ _ _ _ _ => ?_,
    fun _ _ _ fresh => ?_, fun _ _ _ _ => ?_, fun _ _ => ?_, fun _ _ => ?_, fun _ => rfl, fun a ha repeats detail => ?_⟩
  · simp only [Notice.bytes, Notice.content, List.append_assoc]
    rfl
  · have hcode : c.1.index.val = c.2 := by fin_cases hc <;> rfl
    have hlength : (Notice.link (.ask unit asking target k generation c.1 seq tgs)).content.length = 12 + 2 * tgs.length := by
      show (_ ++ tgs.flatMap byte2).length = _
      rw [List.length_append, htwo]
      rfl
    rw [Notice.bytes, hlength, Notice.content, hcode]
    simp only [Notice.code, List.append_assoc]
  · simp only [Notice.bytes, Notice.content, List.append_assoc]
    rfl
  · simp only [Notice.bytes, Notice.content, List.append_assoc, hmark]
    rfl
  · simp only [Notice.bytes, Notice.content, List.append_assoc]
    rfl
  · simp only [Notice.bytes, Notice.content, List.append_assoc]
    rfl
  · simp only [Notice.bytes, Notice.content, List.append_assoc]
    rfl
  · fin_cases ha <;> rfl

theorem resultBytes : ResultBytes := by
  intro kind
  have hfate : ∀ c ∈ fateCodes, fateCode c.1 = c.2 := by decide
  have hprior : ∀ p ∈ stateCodes, priorCode p.1 = p.2 := by decide
  refine ⟨fun g hg c hc r hregistration hcancel => ?_, fun x w code target estimate displaced htarget => ?_,
    fun p hp c hc seq => ?_, fun a ha p hp index seq => ?_, fun a ha => ?_, fun notices left => rfl, fun result hnone => ?_⟩
  · have hcode : r.registration.code = g.2 := by rw [hregistration]; fin_cases hg <;> rfl
    have hmark : byteOfMark r.claimPending = byte1 (if r.claimPending = true then 1 else 0) := by cases r.claimPending <;> rfl
    show registerBytes r = _
    rw [registerBytes, hcode, hmark, hcancel, hfate c hc]
  · have hbytes : targetBytes target = byte2 code := by
      rcases htarget with ⟨rfl, rfl⟩ | ⟨rfl, rfl⟩ | rfl
      · rfl
      · rfl
      · rfl
    show byte1 x ++ byte1 w ++ targetBytes target ++ _ ++ _ = _
    rw [hbytes]
    rfl
  · show byte1 (priorCode p.1) ++ _ ++ byte1 (fateCode c.1) = _
    rw [hprior p hp, hfate c hc]
  · have hcode : a.1.code = a.2 := by fin_cases ha <;> rfl
    show byte1 a.1.code ++ _ ++ byte1 (priorCode p.1) ++ _ = _
    rw [hcode, hprior p hp]
  · fin_cases ha <;> rfl
  · rw [Result.bytes, hnone, Option.getD_none, List.length_take]
    exact Nat.min_le_left _ _

theorem Record.flags_eq (r : Record) : r.flags = (if r.heard = true then 1 else 0) + (if r.inCall = true then 2 else 0)
    + (if r.queued = true then 4 else 0) + (if r.claimPending = true then 8 else 0) + (if r.stamp = .odd then 16 else 0) := by
  have hstamp : (r.stamp == .odd).toNat = if r.stamp = .odd then 1 else 0 := by cases r.stamp <;> rfl
  have hbit : ∀ (n : Nat) (b : Bool), n * b.toNat = if b = true then n else 0 := fun n b => by cases b <;> simp
  rw [Record.flags, hstamp, ← Nat.one_mul r.heard.toNat, hbit, hbit, hbit, hbit, mul_ite, Nat.mul_one, Nat.mul_zero]

/-- The history byte by its bits, the newest first (R190). -/
theorem historyByte_eq (h : Vector Bool 8) :
    [historyByte h] = byte1 ((List.finRange 8).foldl (fun n k => 2 * n + (if h[k] = true then 1 else 0)) 0) := by
  have hbits : ∀ a b c d e f g i : Bool, byteOfBits a b c d e f g i =
      BitVec.ofNat 8 ([a, b, c, d, e, f, g, i].foldl (fun n x => 2 * n + (if x = true then 1 else 0)) 0) := by decide
  exact congrArg (fun b => [b]) (hbits h[0] h[1] h[2] h[3] h[4] h[5] h[6] h[7])

theorem recordBytes_eq : RecordBytes := by
  intro kind i r t items hitems st hst c hc hstate hcls
  have hstateCode : r.state.code = st.2 := by
    have hcode : ∀ p ∈ stateCodes, priorCode p.1 = p.2 := by decide
    rw [← hcode st hst, ← hstate]
    rfl
  have hclsCode : r.cls.index.val = c.2 := by
    have hcode : ∀ p ∈ classCodes, p.1.index.val = p.2 := by decide
    rw [← hcode c hc, hcls]
  have hserving : servingCode r.serving = (r.serving.map (fun d => d.val + 1)).getD 0 := by cases r.serving <;> rfl
  have hitemsBytes : itemsBytes t = items := by
    rcases hitems with ⟨rfl, rfl⟩ | ⟨x, rfl, p, hp, hphase, rfl⟩
    · rfl
    · have hcodes : ∀ p ∈ ([(.asked, 1, 0), (.held .call, 2, 1), (.held .room, 2, 2), (.ordered, 3, 0)] : List (Phase × Nat × Nat)),
          phaseCode p.1 = p.2.1 ∧ holdCode p.1 = p.2.2 := by decide
      obtain ⟨hphaseCode, hholdCode⟩ := hcodes p hp
      rw [itemsBytes, hphase, hphaseCode, hholdCode]
  show recordBytes i r t = _
  rw [recordBytes, hstateCode, hclsCode, hserving, r.flags_eq, historyByte_eq, hitemsBytes]
  rfl

/-- Settles O20: a confirmation clocked out leaves nothing to grant; the bytes are laid out as R189 to R191 say. -/
theorem clockingOutFreesOutboundLine : Obligations.ClockingOutFreesOutboundLine := by
  refine ⟨fun p s hs pin => ⟨?_, s.outbound_setOutbound_same _ p, fun q hq => s.outbound_setOutbound_other _ hq⟩,
    fun n => ⟨rfl, rfl, rfl⟩, confirmationBytes, noticeBytes, resultBytes, recordBytes_eq⟩
  show event (fun s => s.setOutbound (s.outbound p).tail p) s = _
  rw [event_eq pin, (hs.setOutbound _ p).settle_eq]

end Sys2Proof.Machine
end

section
/-! PROOF. The configuration: the table loads (02 R32), the profile store (08 R149 to R155), limits, site and locks (10 R177 to R182),
and the two read requests (R183, 01 R20 to R22). -/

namespace Sys2Proof.Machine

/-! ## The table loads -/

theorem writeRun_getElem {α β : Type} {n : Nat} (v : Vector α n) (start : Nat) (run : List β) (f : β → α) (i : Fin n) :
    (writeRun v start (run.map f))[i] = match (if start ≤ i.val then run[i.val - start]? else none) with
      | some e => f e
      | none => v[i] := by
  have hentry : (writeRun v start (run.map f))[i] =
      if start ≤ i.val then ((run.map f)[i.val - start]?).getD v[i] else v[i] := by simp [writeRun]
  rw [hentry]
  split
  next =>
    rw [List.getElem?_map]
    cases run[i.val - start]? <;> rfl
  next => rfl

theorem loadInRange_of {size start count : Nat} (positive : 1 ≤ count) (small : count ≤ 8) (fits : start + count ≤ size) :
    loadInRange size start count = true := by simp [loadInRange, positive, small, fits]

theorem levelStored_eq (e : Nat × Nat) : levelStored e = ⟨min 255 e.1, max 1 (min 16 e.2)⟩ := by simp [levelStored, clamp]

theorem clamp_zero (hi n : Nat) : clamp 0 hi n = min hi n := by simp [clamp]

/-- A run of entries written into the level table or the error table is nothing that the end of a step reads. -/
theorem Settled.settle_scoring {s : State} (hs : Settled s) (scoring : ScoringUnit) :
    ({ s with scoring := scoring } : State).settle = ({ s with scoring := scoring } : State).refreshLines :=
  hs.settle_same ⟨rfl, rfl⟩ ⟨rfl, rfl, rfl⟩ rfl rfl rfl fun _ => rfl

/-- Settles O35: a load writes its run of clamped entries, and nothing that the end of the step reads. -/
theorem tableLoadsWriteTheirRun : Obligations.TableLoadsWriteTheirRun := by
  intro start s hs
  refine ⟨fun entries pass positive small fits => ?_, fun entries pass positive small fits => ?_⟩
  · have hmap : entries.map (fun e => (⟨min 255 e.1, max 1 (min 16 e.2)⟩ : LevelEntry)) = entries.map levelStored :=
      List.map_congr_left fun e _ => (levelStored_eq e).symm
    refine ⟨writeRun s.scoring.levels start (entries.map levelStored), entries.any (fun e => levelStored e != ⟨e.1, e.2⟩), ?_,
      fun i => ?_, ?_⟩
    · rw [hmap]
      show request .loadLevelTable .maintenance true false (loadInRange Config.levels start entries.length) _ s = _
      rw [loadInRange_of positive small fits]
      exact request_reply pass rfl rfl (hs.settle_scoring _)
    · rw [writeRun_getElem]
      cases (if start ≤ i.val then entries[i.val - start]? else none) with
      | none => rfl
      | some e => exact levelStored_eq e
    · simp only [List.any_eq_true, bne_iff_ne, ne_eq, levelStored_eq, LevelEntry.mk.injEq]
      exact exists_congr fun e => and_congr_right fun _ => by omega
  · have hmap : entries.map (fun e => min 255 e) = entries.map (clamp 0 255) :=
      List.map_congr_left fun e _ => (clamp_zero 255 e).symm
    refine ⟨writeRun s.scoring.penalties start (entries.map (clamp 0 255)), entries.any (fun e => clamp 0 255 e != e), ?_,
      fun i => ?_, ?_⟩
    · rw [hmap]
      show request .loadErrorTable .maintenance true false (loadInRange Config.grades start entries.length) _ s = _
      rw [loadInRange_of positive small fits]
      exact request_reply pass rfl rfl (hs.settle_scoring _)
    · rw [writeRun_getElem]
      cases (if start ≤ i.val then entries[i.val - start]? else none) with
      | none => rfl
      | some e => exact clamp_zero 255 e
    · simp only [List.any_eq_true, bne_iff_ne, ne_eq, clamp_zero]
      exact exists_congr fun e => and_congr_right fun _ => by omega

/-! ## The profile store -/

theorem Profile.field_setField_same (p : Profile) (v : Nat) {code : Nat} (h : 1 ≤ code ∧ code ≤ 15) :
    (p.setField v code).field code = v := by
  obtain ⟨hlow, hhigh⟩ := h
  interval_cases code <;> rfl

theorem Profile.field_outside (p : Profile) {d : Nat} (h : d = 0 ∨ 15 < d) : p.field d = 0 := by
  match d, h with
  | 0, _ => rfl
  | d + 16, _ => rfl

theorem Profile.field_setField_other (p : Profile) (v : Nat) {code d : Nat} (h : 1 ≤ code ∧ code ≤ 15) (other : d ≠ code) :
    (p.setField v code).field d = p.field d := by
  by_cases hd : d = 0 ∨ 15 < d
  · rw [Profile.field_outside _ hd, Profile.field_outside _ hd]
  · obtain ⟨n, rfl⟩ : ∃ n : Fin 15, code = n.val + 1 := ⟨⟨code - 1, by omega⟩, by simp only; omega⟩
    obtain ⟨m, rfl⟩ : ∃ m : Fin 15, d = m.val + 1 := ⟨⟨d - 1, by omega⟩, by simp only; omega⟩
    rw [Profile.field_setField, if_neg fun hmn => other (by rw [hmn])]

theorem ProfileStore.profile_setProfile (t : ProfileStore) (p : Profile) (name other : ProfileName) :
    (t.setProfile p name).profile other = if other = name then p else t.profile other := by
  cases name <;> cases other <;> rfl

/-- Settles O50: the store is written field by field, and the codes name the fields of R150 in its order. -/
theorem profileRequestsWriteStore : Obligations.ProfileRequestsWriteStore := by
  refine ⟨fun s hs => ⟨fun profile code value lo hi name pass hname positive hrange => ?_, fun pass => ?_, fun pass => ?_⟩,
    fun s => ?_, fun _ => ⟨rfl, rfl⟩, fun _ _ => ⟨rfl, rfl⟩⟩
  · have hcode : code ≤ 15 := by
      have hlength := (List.getElem?_eq_some_iff.mp hrange).1
      simp only [List.length_cons, List.length_nil] at hlength
      omega
    have hfield : fieldRange code = (lo, hi) := by
      interval_cases code <;> exact Option.some.inj hrange
    have hstored : storedField code value = max lo (min hi value) := by rw [storedField, hfield]; rfl
    refine ⟨s.profiles.setProfile ((s.profiles.profile name).setField (max lo (min hi value)) code) name, ?_, ?_, fun d hd => ?_,
      fun other hother => ?_, ?_, ?_⟩
    · show request .setProfileField .maintenance true false (profileFieldInRange profile code)
        (setProfileFieldService profile code value) s = _
      rw [profileFieldInRange, hname, decide_eq_true ⟨positive, hcode⟩]
      exact request_reply pass rfl (by rw [setProfileFieldService, hname, hstored])
        (hs.settle_same ⟨rfl, rfl⟩ ⟨rfl, rfl, rfl⟩ rfl rfl rfl fun _ => rfl)
    · rw [ProfileStore.profile_setProfile, if_pos rfl, Profile.field_setField_same _ _ ⟨positive, hcode⟩]
    · rw [ProfileStore.profile_setProfile, if_pos rfl, Profile.field_setField_other _ _ ⟨positive, hcode⟩ hd]
    · rw [ProfileStore.profile_setProfile, if_neg hother]
    · cases name <;> rfl
    · cases name <;> rfl
  · exact request_reply (own := fun s => (s.setIncident true, fun _ => incidentReply s)) pass rfl rfl
      (hs.settle_same ⟨rfl, rfl⟩ ⟨rfl, rfl, rfl⟩ rfl rfl rfl fun _ => rfl)
  · exact request_reply (own := fun s => (s.setIncident false, fun _ => incidentReply s)) pass rfl rfl
      (hs.settle_same ⟨rfl, rfl⟩ ⟨rfl, rfl, rfl⟩ rfl rfl rfl fun _ => rfl)
  · unfold State.selected
    cases s.profiles.selection <;> rfl

/-! ## Limits and the site number -/

theorem limitStored_of {lo hi old stored : Nat} {o : Option Nat}
    (h : o = none ∧ stored = old ∨ ∃ v, o = some v ∧ stored = max lo (min hi v)) :
    limitStored lo hi old o = stored ∧ (limitAdjusted lo hi o = true ↔ ∃ v, o = some v ∧ stored ≠ v) := by
  rcases h with ⟨rfl, rfl⟩ | ⟨v, rfl, rfl⟩
  · exact ⟨rfl, by simp [limitAdjusted]⟩
  · exact ⟨rfl, by simp [limitAdjusted, clamp]⟩

/-- Settles O51: each limit is stored clamped or kept; the site number is free while no record is occupied. -/
theorem limitsAndSiteAreWritten : Obligations.LimitsAndSiteAreWritten := by
  intro s hs
  refine ⟨fun f reserve allowance threshold pass given hreserve hallowance hthreshold => ?_, fun site pass => ⟨fun hrange => ?_,
    fun low high hfree => ?_⟩⟩
  · have hzero : f.reserve = none ∧ reserve = s.visitors.reserve ∨ ∃ v, f.reserve = some v ∧ reserve = max 0 (min 128 v) := by
      simpa using hreserve
    obtain ⟨hstoredReserve, hadjustedReserve⟩ := limitStored_of hzero
    obtain ⟨hstoredAllowance, hadjustedAllowance⟩ := limitStored_of hallowance
    have hstoredThreshold : (f.threshold.bind Threshold.ofCode).getD s.ports.threshold = threshold := by
      rcases hthreshold with ⟨h, rfl⟩ | ⟨v, h, hv⟩
      · rw [h]; rfl
      · rw [h, Option.bind_some, hv, Option.getD_some]
    have hrange : LimitsFields.inRange f = true := by
      have hcode : (match f.threshold with | none => true | some c => (Threshold.ofCode c).isSome) = true := by
        rcases hthreshold with ⟨h, -⟩ | ⟨v, h, hv⟩
        · rw [h]
        · rw [h]; exact (Option.isSome_iff_exists.mpr ⟨_, hv⟩)
      have hgiven : (f.reserve.isSome || f.allowance.isSome || f.threshold.isSome) = true := by
        simp only [Bool.or_eq_true, Option.isSome_iff_ne_none]
        tauto
      rw [LimitsFields.inRange, hgiven, Bool.true_and]
      exact hcode
    refine ⟨limitAdjusted 0 128 f.reserve || limitAdjusted 16 1023 f.allowance, ?_, ?_⟩
    · show request .setLimits .maintenance true false (LimitsFields.inRange f) (setLimitsService f) s = _
      rw [hrange]
      exact request_reply pass rfl (by rw [setLimitsService, hstoredReserve, hstoredAllowance, hstoredThreshold])
        (hs.settle_same ⟨rfl, rfl⟩ ⟨rfl, rfl, rfl⟩ rfl rfl rfl fun _ => rfl)
    · rw [Bool.or_eq_true, hadjustedReserve, hadjustedAllowance]
  · refine (exec_refuses_range (r := .setSite site) hs rfl nofun ?_).1 _ pass (show Kind.setSite ∉ countedKinds by decide)
    rcases hrange with h | h | h
    · exact Or.inl (Or.inl h)
    · exact Or.inl (Or.inr h)
    · exact Or.inr h
  · have hexec : exec (.setSite .maintenance site) s = request .setSite .maintenance true false true (setSiteService site) s := by
      have hsettable : s.siteSettable site = true := by
        rw [State.siteSettable, siteInRange_iff.mpr ⟨low, high⟩, State.neighbourSlot?_eq_none.mpr hfree]
        rfl
      show request .setSite .maintenance true false (s.siteSettable site) (setSiteService site) s = _
      rw [hsettable]
    rw [hexec]
    refine ⟨fun hempty => ?_, fun hoccupied => ?_⟩
    · exact request_reply pass rfl (by rw [setSiteService, hempty]; rfl)
        (hs.settle_same ⟨rfl, rfl⟩ ⟨rfl, rfl, rfl⟩ rfl rfl rfl fun _ => rfl)
    · exact request_confirm hs pass rfl (by
        rw [setSiteService, if_neg (by rw [List.isEmpty_iff]; exact hoccupied)]
        rfl)

/-! ## Locks -/

theorem LockGroups.isEmpty_iff (g : LockGroups) : g.isEmpty = true ↔ g = ⟨false, false, false, false⟩ := by
  obtain ⟨tables, profiles, neighbours, limits⟩ := g
  simp [LockGroups.isEmpty, and_assoc]

/-- Settles O52: LOCK, UNLOCK and SET INCIDENT LOCKS write the protection block, and the effective locks are computed from it. -/
theorem locksAreSetAndCleared : Obligations.LocksAreSetAndCleared := by
  rintro s b g lock unlock effective hs heffective rfl rfl rfl
  have howner : ∀ own, (s.setOwnLocks own).effectiveLocks = effective own s.protection.marks := fun own => by
    rw [State.effectiveLocks_eq, heffective]
    rfl
  have hmarks : ∀ marks, (s.setMarks marks).effectiveLocks = effective s.protection.own marks := fun marks => by
    rw [State.effectiveLocks_eq, heffective]
    rfl
  have hlock : exec (.lock .maintenance b) s = request .lock .maintenance true false (!(LockGroups.ofByte b).isEmpty)
    (fun s => ownLocksService (s.protection.own.or (LockGroups.ofByte b)) s) s := rfl
  have hunlock : exec (.unlock .maintenance b) s = request .unlock .maintenance true false (!(LockGroups.ofByte b).isEmpty)
    (fun s => ownLocksService (s.protection.own.without (LockGroups.ofByte b)) s) s := rfl
  refine ⟨fun hgroups => ?_, fun hnone => ?_, fun pass => ?_⟩
  · have hsome : (LockGroups.ofByte b).isEmpty = false := by
      rw [← Bool.not_eq_true, LockGroups.isEmpty_iff]
      exact hgroups
    rw [hlock, hunlock, hsome]
    refine ⟨fun pass => ?_, fun pass => ?_⟩
    · exact request_reply pass rfl (by rw [ownLocksService, howner]; rfl)
        (hs.settle_same ⟨rfl, rfl⟩ ⟨rfl, rfl, rfl⟩ rfl rfl rfl fun _ => rfl)
    · exact request_reply pass rfl (by rw [ownLocksService, howner]; rfl)
        (hs.settle_same ⟨rfl, rfl⟩ ⟨rfl, rfl, rfl⟩ rfl rfl rfl fun _ => rfl)
  · have hempty : (LockGroups.ofByte b).isEmpty = true := (LockGroups.isEmpty_iff _).mpr hnone
    rw [hlock, hunlock, hempty]
    exact ⟨fun pass => request_refuses_range hs pass rfl, fun pass => request_refuses_range hs pass rfl⟩
  · exact request_reply (own := incidentLocksService (LockGroups.ofByte b)) pass rfl (by rw [incidentLocksService, hmarks]; rfl)
      (hs.settle_same ⟨rfl, rfl⟩ ⟨rfl, rfl, rfl⟩ rfl rfl rfl fun _ => rfl)

/-! ## The read requests -/

/-- Every record is FREE or in one of the four states (R6). -/
theorem countP_states (l : List (Option Record)) : l.countP (fun o => o.isNone)
    + l.countP (fun o => o.any (fun r => r.state == .expected)) + l.countP (fun o => o.any (fun r => r.state == .active))
    + l.countP (fun o => o.any (fun r => r.state == .transit)) + l.countP (fun o => o.any (fun r => r.state == .lost)) = l.length := by
  induction l with
  | nil => rfl
  | cons o l ih =>
    simp only [List.countP_cons, List.length_cons]
    cases o with
    | none =>
      simp only [Option.isNone_none, Option.any_none, if_true, Bool.false_eq_true, if_false]
      omega
    | some r =>
      have hone : (if (r.state == .expected) = true then 1 else 0) + (if (r.state == .active) = true then 1 else 0)
          + (if (r.state == .transit) = true then 1 else 0) + (if (r.state == .lost) = true then 1 else 0) = 1 := by
        cases r.state <;> rfl
      simp only [Option.isNone_some, Option.any_some, Bool.false_eq_true, if_false]
      omega

theorem toList_four {α : Type} (v : Vector α 4) : v.toList = [v[0], v[1], v[2], v[3]] := by
  obtain ⟨⟨l⟩, hl⟩ := v
  match l, hl with
  | [_, _, _, _], _ => rfl

theorem MapEntry.isLeaving_eq (e : MapEntry) : e.isLeaving = (e.phase != .joined) := by
  unfold MapEntry.isLeaving
  cases e.phase <;> rfl

/-- Settles O54: both requests leave the state, and each item of the status is read from its block. -/
theorem readsChangeNothing : Obligations.ReadsChangeNothing := by
  intro s hs
  refine ⟨fun unit i r pass hunit hfind => ⟨s.transactionItems r, ?_, fun hslot => ?_, fun k x hslot hx => ?_⟩,
    fun pass => ⟨s.status, ?_, rfl, rfl, rfl, rfl, rfl, rfl, ?_, rfl, ?_, ?_, ?_, rfl, rfl, rfl, rfl, rfl, rfl, rfl, rfl, rfl, ?_, rfl,
      rfl, ?_, rfl, rfl, rfl, rfl, rfl, s.effectiveLocks_eq⟩⟩
  · rw [exec_readRecord hunit]
    exact request_confirm hs pass rfl (by rw [readRecordService, hfind])
  · rw [State.transactionItems, hslot, Option.bind_none]
  · rw [State.transactionItems, hslot, Option.bind_some, hx, Option.map_some]
  · exact request_confirm (own := fun s => (s, fun _ => .done false none (.status s.status))) hs pass rfl rfl
  · exact (countP_states s.visitors.records.toList).trans (Vector.length_toList ..)
  · show s.handover.queues.toList.map List.length = _
    rw [toList_four]
    rfl
  · refine List.countP_congr fun o _ => ?_
    cases o with
    | none => rfl
    | some e => rw [Option.any_some, Option.any_some, MapEntry.isLeaving_eq, bne, Bool.not_not]
  · refine List.countP_congr fun o _ => ?_
    cases o with
    | none => rfl
    | some e => rw [Option.any_some, Option.any_some, MapEntry.isLeaving_eq]
  · show s.ports.channels.toList.map ChannelPort.state = _
    rw [toList_four]
    rfl
  · show s.ports.channels.toList.map (fun c => c.queue.length) = _
    rw [toList_four]
    rfl

end Sys2Proof.Machine
end

section
/-! PROOF. FETCH and OPEN on a channel port (09 R162, R174), and the MOVE attempts that room on a channel port lets go (06 R103). -/

namespace Sys2Proof.Machine

/-! ## What the end of a step leaves of the configuration and of the queues -/

theorem ConfigKept.refl (s : State) : ConfigKept s s := ⟨rfl, rfl, rfl, rfl, rfl, rfl, rfl, rfl⟩

theorem ConfigKept.trans {a b d : State} (h : ConfigKept a b) (g : ConfigKept b d) : ConfigKept a d :=
  ⟨g.pending.trans h.pending, g.resetPinLow.trans h.resetPinLow, g.scoring.trans h.scoring, g.profiles.trans h.profiles,
    g.protection.trans h.protection, g.reserve.trans h.reserve, g.allowance.trans h.allowance, g.threshold.trans h.threshold⟩

theorem EndOfStepFrame.config {s t : State} (h : EndOfStepFrame s t) : ConfigKept s t :=
  ⟨h.pending, h.resetPinLow, h.scoring, h.profiles, h.protection, h.reserve, h.allowance, h.threshold⟩

theorem ConfigKept.setOutbound (s : State) (l : List Confirmation) (p : Port) : ConfigKept s (s.setOutbound l p) := by
  cases p <;> exact ⟨rfl, rfl, rfl, rfl, rfl, rfl, rfl, rfl⟩

theorem ConfigKept.confirm (s : State) (p : Port) (c : Confirmation) : ConfigKept s (s.confirm p c) := .setOutbound s _ p

theorem State.notices_setOutbound (s : State) (l : List Confirmation) (p q : Port) : (s.setOutbound l p).notices q = s.notices q := by
  cases q with
  | maintenance => simp only [State.notices, State.setOutbound_maintenance_alarms]
  | link => simp only [State.notices, State.setOutbound_link_queue]
  | channel d => exact congrArg (List.map Notice.channel) (State.setOutbound_channel_queue s l p d)

theorem State.portState_setOutbound (s : State) (l : List Confirmation) (p q : Port) :
    (s.setOutbound l p).portState q = s.portState q := by
  cases q with
  | maintenance => rfl
  | link => simp only [State.portState, State.setOutbound_link_isOpen]
  | channel d => exact State.setOutbound_channel_state s l p d

theorem State.outbound_confirm_other (s : State) (c : Confirmation) {p q : Port} (h : q ≠ p) :
    (s.confirm p c).outbound q = s.outbound q := s.outbound_setOutbound_other _ h

/-- On a free line the confirmation of the request is the only one (R160). -/
theorem UpToGrants.line {u t : State} {p : Port} {c : Confirmation} (h : UpToGrants (u.confirm p c) t) (free : u.outbound p = []) :
    t.outbound p = [c] := by
  rw [h.outbound p, State.outbound_confirm, free, List.nil_append]

/-- The end of a step appends to a queue at most (R145). -/
theorem EndOfStepFrame.notices {s t : State} (h : EndOfStepFrame s t) (p : Port) : ∃ posted, t.notices p = s.notices p ++ posted := by
  cases p with
  | maintenance => exact ⟨[], by rw [List.append_nil]; exact congrArg (List.map Notice.alarm) h.alarms⟩
  | channel c => exact ⟨[], by rw [List.append_nil]; exact congrArg (List.map Notice.channel) (h.channelQueue c)⟩
  | link =>
    obtain ⟨l, hl⟩ := h.posted
    refine ⟨l.map Notice.link, ?_⟩
    show t.ports.link.queue.map (fun q => Notice.link q.notice) = _
    rw [hl, List.map_append, List.map_map]
    rfl

/-! ## What a MOVE attempt leaves alone -/

/-- What a MOVE attempt leaves alone: all but the handover unit, the record of the transaction, and notices at the tail of the link
queue and of a channel queue (R99). -/
structure AttemptFrame (s t : State) : Prop where
  config : ConfigKept s t
  neighbours : t.neighbours = s.neighbours
  age : t.visitors.age = s.visitors.age
  free : t.visitors.free = s.visitors.free
  outbound : ∀ p : Port, t.outbound p = s.outbound p
  portState : ∀ p : Port, t.portState p = s.portState p
  notices : ∀ p : Port, ∃ posted, t.notices p = s.notices p ++ posted

theorem AttemptFrame.refl (s : State) : AttemptFrame s s :=
  ⟨.refl s, rfl, rfl, rfl, fun _ => rfl, fun _ => rfl, fun _ => ⟨[], (List.append_nil _).symm⟩⟩

theorem AttemptFrame.trans {a b d : State} (h : AttemptFrame a b) (g : AttemptFrame b d) : AttemptFrame a d :=
  ⟨h.config.trans g.config, g.neighbours.trans h.neighbours, g.age.trans h.age, g.free.trans h.free,
    fun p => (g.outbound p).trans (h.outbound p), fun p => (g.portState p).trans (h.portState p), fun p => by
      obtain ⟨first, hfirst⟩ := h.notices p
      obtain ⟨second, hsecond⟩ := g.notices p
      exact ⟨first ++ second, by rw [hsecond, hfirst, List.append_assoc]⟩⟩

/-- A change of records and slots. -/
theorem AttemptFrame.of_ports {s t : State} (config : ConfigKept s t) (neighbours : t.neighbours = s.neighbours)
    (age : t.visitors.age = s.visitors.age) (free : t.visitors.free = s.visitors.free) (ports : t.ports = s.ports) : AttemptFrame s t :=
  ⟨config, neighbours, age, free, fun p => by cases p <;> simp only [State.outbound, ports],
    fun p => by cases p <;> simp only [State.portState, ports],
    fun p => ⟨[], by cases p <;> simp only [State.notices, ports, List.append_nil]⟩⟩

theorem AttemptFrame.failed (s : State) (k : Fin 8) (x : Transaction) (cooldown : Option Nat) : AttemptFrame s (s.failed k x cooldown) :=
  .of_ports ⟨rfl, rfl, rfl, rfl, rfl, rfl, rfl, rfl⟩ rfl rfl rfl rfl

theorem AttemptFrame.withSlot (s : State) (k : Fin 8) (g : Slot) : AttemptFrame s (s.withSlot k g) :=
  .of_ports ⟨rfl, rfl, rfl, rfl, rfl, rfl, rfl, rfl⟩ rfl rfl rfl rfl

theorem AttemptFrame.offered (s : State) (n : LinkNotice) : AttemptFrame s (s.offered n) := by
  unfold State.offered
  split
  · refine ⟨⟨rfl, rfl, rfl, rfl, rfl, rfl, rfl, rfl⟩, rfl, rfl, rfl, fun p => by cases p <;> rfl, fun p => by cases p <;> rfl,
      fun p => ?_⟩
    cases p with
    | maintenance => exact ⟨[], (List.append_nil _).symm⟩
    | channel c => exact ⟨[], (List.append_nil _).symm⟩
    | link => exact ⟨[.link n], List.map_append⟩
  · exact .refl s

theorem State.channels_modifyChannel (s : State) (c d : Fin 4) (f : ChannelPort → ChannelPort) :
    (s.modifyChannel c f).ports.channels[d] = if d = c then f s.ports.channels[c] else s.ports.channels[d] :=
  getElem_set_fin s.ports.channels c d _

/-- A channel port changed in its queue only keeps its line and its state. -/
theorem State.outbound_modifyChannel (s : State) (c : Fin 4) {f : ChannelPort → ChannelPort} (h : ∀ p, (f p).outbound = p.outbound)
    (p : Port) : (s.modifyChannel c f).outbound p = s.outbound p := by
  cases p with
  | maintenance => rfl
  | link => rfl
  | channel d =>
    show (s.modifyChannel c f).ports.channels[d].outbound = _
    rw [State.channels_modifyChannel]
    split
    next hd => rw [h, hd]; rfl
    next => rfl

theorem AttemptFrame.post (s : State) (c : Fin 4) (l : List ChannelNotice) :
    AttemptFrame s (s.modifyChannel c (fun p => { p with queue := p.queue ++ l })) := by
  refine ⟨⟨rfl, rfl, rfl, rfl, rfl, rfl, rfl, rfl⟩, rfl, rfl, rfl, State.outbound_modifyChannel s c fun _ => rfl, fun p => ?_, fun p => ?_⟩
  · cases p with
    | maintenance => rfl
    | link => rfl
    | channel d =>
      show (s.modifyChannel c _).ports.channels[d].state = _
      rw [State.channels_modifyChannel]
      split
      next hd => rw [hd]; rfl
      next => rfl
  · cases p with
    | maintenance => exact ⟨[], (List.append_nil _).symm⟩
    | link => exact ⟨[], (List.append_nil _).symm⟩
    | channel d =>
      refine ⟨if d = c then l.map Notice.channel else [], ?_⟩
      show (s.modifyChannel c _).ports.channels[d].queue.map Notice.channel = _
      rw [State.channels_modifyChannel]
      split
      next hd => rw [List.map_append, hd]; rfl
      next => rw [List.append_nil]; rfl

theorem AttemptFrame.attempted (s : State) (k : Fin 8) (x : Transaction) (r : Record) (d : Fin 4) :
    AttemptFrame s (s.attempted k x r d) := by
  unfold State.attempted
  dsimp only
  split
  · exact (AttemptFrame.offered s _).trans (.failed _ k x _)
  · split
    · exact .withSlot s k _
    · split
      · exact .withSlot s k _
      · exact (AttemptFrame.withSlot s k _).trans (.post _ d _)

theorem AttemptFrame.attemptsForRoom (s : State) (c : Fin 4) : AttemptFrame s (s.attemptsForRoom c) := by
  have hone : ∀ (u : State) (k : Fin 8), AttemptFrame u (u.attemptForRoom c k) := fun u k => by
    unfold State.attemptForRoom
    split
    · exact .refl u
    · split
      · exact .refl u
      · split
        · exact .attempted u k _ _ c
        · exact .refl u
  unfold State.attemptsForRoom
  generalize List.finRange 8 = l
  induction l generalizing s with
  | nil => exact .refl s
  | cons k l ih => exact (hone s k).trans (ih _)

/-! ## FETCH -/

theorem State.modifyChannel_eq_self {s : State} {c : Fin 4} {f : ChannelPort → ChannelPort}
    (h : f s.ports.channels[c] = s.ports.channels[c]) : s.modifyChannel c f = s := by
  unfold State.modifyChannel
  rw [h]
  have hset : s.ports.channels.set c s.ports.channels[c] = s.ports.channels := Vector.set_getElem_self c.isLt
  rw [hset]

/-- Notices are dropped from the front of the queue they are read from (R174). -/
theorem State.notices_dropNotices (s : State) (n : Nat) (p : Port) : (s.dropNotices n p).notices p = (s.notices p).drop n := by
  cases p with
  | maintenance => exact List.map_drop
  | link => exact List.map_drop
  | channel c =>
    show (s.modifyChannel c _).ports.channels[c].queue.map Notice.channel = _
    rw [State.channels_modifyChannel, if_pos rfl]
    exact List.map_drop

theorem State.outbound_dropNotices (s : State) (n : Nat) (p q : Port) : (s.dropNotices n p).outbound q = s.outbound q := by
  cases p with
  | maintenance => cases q <;> rfl
  | link => cases q <;> rfl
  | channel c => exact State.outbound_modifyChannel (f := fun p => { p with queue := p.queue.drop n }) s c (fun _ => rfl) q

theorem State.dropNotices_eq_self {s : State} {p : Port} (n : Nat) (h : s.notices p = []) : s.dropNotices n p = s := by
  cases p with
  | maintenance =>
    have hempty : s.ports.maintenance.alarms = [] := List.map_eq_nil_iff.mp h
    simp only [State.dropNotices, State.modifyMaintenance, hempty, List.drop_nil]
    rw [← hempty]
  | link =>
    have hempty : s.ports.link.queue = [] := List.map_eq_nil_iff.mp h
    simp only [State.dropNotices, State.modifyLink, hempty, List.drop_nil]
    rw [← hempty]
  | channel c =>
    have hempty : s.ports.channels[c].queue = [] := List.map_eq_nil_iff.mp h
    refine State.modifyChannel_eq_self (f := fun p => { p with queue := p.queue.drop n }) ?_
    rw [hempty, List.drop_nil, ← hempty]

theorem State.dropNotices_frame (s : State) (n : Nat) (p : Port) : (s.dropNotices n p).visitors = s.visitors
    ∧ (s.dropNotices n p).handover = s.handover ∧ (s.dropNotices n p).neighbours = s.neighbours ∧ ConfigKept s (s.dropNotices n p) := by
  cases p <;> exact ⟨rfl, rfl, rfl, ⟨rfl, rfl, rfl, rfl, rfl, rfl, rfl, rfl⟩⟩

/-- The service of FETCH, with the room it makes (R103, R174). -/
theorem fetchService_eq {s : State} {p : Port} {count n : Nat} (hn : n = max 1 (min 8 count)) : fetchService p count s =
    (if s.notices p = [] then s else (s.dropNotices n p).serveRoom p,
      fun _ => .done (n != count) none (.fetched ((s.notices p).take n) ((s.notices p).length - n))) := by
  have hclamp : clamp 1 8 count = n := hn.symm
  unfold fetchService
  rw [hclamp]
  dsimp only
  rw [List.length_drop]
  cases hempty : s.notices p with
  | nil => rw [State.dropNotices_eq_self n hempty, List.take_nil]; rfl
  | cons x rest =>
    obtain ⟨m, rfl⟩ : ∃ m, n = m + 1 := ⟨n - 1, by omega⟩
    rfl

theorem AttemptFrame.serveRoom (s : State) (p : Port) : AttemptFrame s (s.serveRoom p) := by
  cases p with
  | maintenance => exact .refl s
  | link => exact .refl s
  | channel c =>
    show AttemptFrame s (s.roomMade c)
    rw [State.roomMade_eq]
    exact .attemptsForRoom s c

/-- Settles O14: the service drops notices, then room lets the held slots go, then the end of the step appends. -/
theorem fetchReturnsOldestNotices : Obligations.FetchReturnsOldestNotices := by
  intro p count n s pass hn
  have hservice := fetchService_eq (s := s) (p := p) hn
  obtain ⟨t, hexec, hup⟩ := request_upToGrants pass rfl hservice
  obtain ⟨hvisitors, hhandover, hneighbours, hconfig⟩ := s.dropNotices_frame n p
  refine ⟨?_, fun hheld => ⟨t, hexec, ?_⟩, fun c hp hqueue => ⟨t, hexec, ?_⟩, fun hempty => ⟨t, hexec, ?_⟩⟩
  · have hserved : AttemptFrame (s.dropNotices n p) (if s.notices p = [] then s else (s.dropNotices n p).serveRoom p) := by
      split
      next hempty => rw [State.dropNotices_eq_self n hempty]; exact .refl s
      next => exact .serveRoom _ p
    obtain ⟨room, hroom⟩ := hserved.notices p
    obtain ⟨granted, hgranted⟩ := hup.toEndOfStepFrame.notices p
    refine ⟨t, room ++ granted, hexec, hup.line ?_, ?_, ?_, ?_, ?_, ?_⟩
    · rw [hserved.outbound, State.outbound_dropNotices]
      exact pass.line
    · rw [hgranted, State.confirm, State.notices_setOutbound, hroom, State.notices_dropNotices, List.append_assoc]
    · rw [hup.age, State.confirm_visitors, hserved.age, hvisitors]
    · rw [hup.free, State.confirm_visitors, hserved.free, hvisitors]
    · rw [hup.neighbours, State.confirm_neighbours, hserved.neighbours, hneighbours]
    · exact ((hconfig.trans hserved.config).trans (.confirm _ p _)).trans hup.toEndOfStepFrame.config
  · have hroom : (if s.notices p = [] then s else (s.dropNotices n p).serveRoom p) = s.dropNotices n p := by
      split
      next hempty => exact (State.dropNotices_eq_self n hempty).symm
      next =>
        cases p with
        | maintenance => rfl
        | link => rfl
        | channel c => exact (State.roomMade_eq _ c).trans (State.attemptsForRoom_none fun k => hheld c k rfl)
    rw [hroom] at hup
    exact hup
  · subst hp
    have hsome : s.notices (.channel c) ≠ [] := fun h => hqueue (List.map_eq_nil_iff.mp h)
    rw [if_neg hsome] at hup
    rw [← State.roomMade_eq]
    exact hup
  · rw [if_pos hempty, hempty, List.take_nil, List.length_nil, Nat.zero_sub] at hup
    exact hup

/-! ## OPEN on a channel port -/

theorem Passes.channel_not_muted {s : State} {c : Fin 4} (h : Passes s .openPort (.channel c)) : s.ports.channels[c].state ≠ .muted := by
  intro hmuted
  rcases h.muted hmuted with h | h <;> cases h

theorem openChannelService_of_closed {s : State} {c : Fin 4} (h : s.ports.channels[c].state = .closed) : openChannelService c s =
    ((s.modifyChannel c (fun p => { p with state := .opened, chatter := 0 })).attemptsForRoom c,
      fun _ => .done false none (.opened .closed none)) := by
  unfold openChannelService
  rw [h, ← State.roomMade_eq]

theorem openChannelService_of_opened {s : State} {c : Fin 4} (h : s.ports.channels[c].state = .opened) : openChannelService c s =
    ((s.modifyChannel c (fun p => { p with queue := [] })).attemptsForRoom c,
      fun _ => .done false none (.opened .opened (some s.ports.channels[c].queue.length))) := by
  unfold openChannelService
  rw [h, ← State.roomMade_eq]

/-- A channel port as its opening and the end of the step leave it, whatever MOVE attempts the room lets go. -/
theorem UpToGrants.opened {s t : State} {c : Fin 4} {f : ChannelPort → ChannelPort} {reply : Confirmation}
    (h : UpToGrants (((s.modifyChannel c f).attemptsForRoom c).confirm (.channel c) reply) t) (line : s.outbound (.channel c) = [])
    (outbound : ∀ p, (f p).outbound = p.outbound) (opened : (f s.ports.channels[c]).state = .opened) :
    t.ports.channels[c].state = .opened ∧ (∃ posted, t.ports.channels[c].queue = (f s.ports.channels[c]).queue ++ posted)
      ∧ t.outbound (.channel c) = [reply] ∧ t.visitors.age = s.visitors.age ∧ t.neighbours = s.neighbours ∧ ConfigKept s t := by
  have hattempts := AttemptFrame.attemptsForRoom (s.modifyChannel c f) c
  have hport : (s.modifyChannel c f).ports.channels[c] = f s.ports.channels[c] := by
    rw [State.channels_modifyChannel, if_pos rfl]
  have hopen : ConfigKept s (s.modifyChannel c f) := ⟨rfl, rfl, rfl, rfl, rfl, rfl, rfl, rfl⟩
  refine ⟨?_, ?_, h.line ?_, ?_, ?_, ((hopen.trans hattempts.config).trans (.confirm _ _ _)).trans h.toEndOfStepFrame.config⟩
  · rw [h.channelState c]
    have hstate := ((State.portState_setOutbound _ _ _ _).trans (hattempts.portState (.channel c)) :
      (((s.modifyChannel c f).attemptsForRoom c).confirm (.channel c) reply).portState (.channel c) = _)
    refine hstate.trans ?_
    show (s.modifyChannel c f).ports.channels[c].state = _
    rw [hport, opened]
  · obtain ⟨posted, hposted⟩ := hattempts.notices (.channel c)
    have hqueue : ((((s.modifyChannel c f).attemptsForRoom c).confirm (.channel c) reply).notices (.channel c)) =
        (f s.ports.channels[c]).queue.map Notice.channel ++ posted := by
      rw [State.confirm, State.notices_setOutbound, hposted]
      show (s.modifyChannel c f).ports.channels[c].queue.map Notice.channel ++ posted = _
      rw [hport]
    obtain ⟨first, second, hsplit, hfirst, -⟩ := List.map_eq_append_iff.mp hqueue
    have hinjective : Function.Injective Notice.channel := fun a b hab => Notice.channel.inj hab
    refine ⟨second, ?_⟩
    rw [h.channelQueue c, hsplit, List.map_injective_iff.mpr hinjective hfirst]
  · rw [hattempts.outbound, State.outbound_modifyChannel s c outbound]
    exact line
  · rw [h.age, State.confirm_visitors, hattempts.age, State.modifyChannel_visitors]
  · rw [h.neighbours, State.confirm_neighbours, hattempts.neighbours, State.modifyChannel_neighbours]

/-- OPEN on a CLOSED port of a site without a number (R162, R177). -/
theorem exec_open_not_ready {s : State} {p : Port} (hs : Settled s) (pin : s.resetPinLow = false) (line : s.outbound p = [])
    (port : p ≠ .maintenance) (closed : s.portState p = .closed) (site : s.protection.site = 0) :
    exec (.openPort p) s = .next (s.confirm p ⟨2, .refused .notReady⟩) := by
  have hrole : Kind.openPort ∈ admittedKinds p := by
    cases p with
    | maintenance => exact absurd rfl port
    | link => exact (show Kind.openPort ∈ admittedKinds .link by decide)
    | channel c => exact (show Kind.openPort ∈ admittedKinds (.channel 0) by decide)
  have hearly : s.earlyRefusal .openPort p true = none := by
    rw [State.earlyRefusal_admitted line hrole, closed]
    rfl
  have hlate : s.lateRefusal .openPort p false true = some .notReady := by
    unfold State.lateRefusal
    rw [closed, site]
    rfl
  have hchecked : s.checked .openPort p true false true (openService p) = s.refuse .notReady := by
    unfold State.checked
    rw [hearly, State.chatterTest_uncounted rfl]
    dsimp only
    rw [if_pos rfl, hlate]
  show request .openPort p true false true (openService p) s = _
  rw [request, pin, if_neg Bool.false_ne_true, hchecked]
  exact congrArg _ (Served.finish_of_settled (r := s.refuse .notReady) hs)

/-- Settles O15: the opening by the state it finds, and then the MOVE attempts that its room lets go. -/
theorem openOpensChannelPort : Obligations.OpenOpensChannelPort := by
  refine ⟨fun c s pass => ?_, fun p s hs pin line port closed site => exec_open_not_ready hs pin line port closed site⟩
  have hclosed : s.ports.channels[c].state = .closed → ∃ t, exec (.openPort (.channel c)) s = .next t ∧ UpToGrants
      (((s.modifyChannel c (fun p => { p with state := .opened, chatter := 0 })).attemptsForRoom c).confirm (.channel c)
        ⟨2, .done false none (.opened .closed none)⟩) t := fun h =>
    request_upToGrants (own := openService (.channel c)) pass rfl (openChannelService_of_closed h)
  have hopened : s.ports.channels[c].state = .opened → ∃ t, exec (.openPort (.channel c)) s = .next t ∧ UpToGrants
      (((s.modifyChannel c (fun p => { p with queue := [] })).attemptsForRoom c).confirm (.channel c)
        ⟨2, .done false none (.opened .opened (some s.ports.channels[c].queue.length))⟩) t := fun h =>
    request_upToGrants (own := openService (.channel c)) pass rfl (openChannelService_of_opened h)
  have hstates : s.ports.channels[c].state = .closed ∨ s.ports.channels[c].state = .opened := by
    have hmuted := pass.channel_not_muted
    cases hstate : s.ports.channels[c].state with
    | closed => exact Or.inl rfl
    | opened => exact Or.inr rfl
    | muted => exact absurd hstate hmuted
  refine ⟨?_, fun hs hheld => ⟨fun h => ?_, fun h => ?_⟩, ?_⟩
  · rcases hstates with h | h
    · obtain ⟨t, hexec, hup⟩ := hclosed h
      obtain ⟨hstate, ⟨posted, hqueue⟩, hline, hage, hneighbours, hconfig⟩ := hup.opened pass.line (fun _ => rfl) rfl
      exact ⟨t, posted, hexec, hstate, fun _ => ⟨hqueue, hline⟩, fun h' => (by rw [h] at h'; cases h'), hage, hneighbours, hconfig⟩
    · obtain ⟨t, hexec, hup⟩ := hopened h
      obtain ⟨hstate, ⟨posted, hqueue⟩, hline, hage, hneighbours, hconfig⟩ := hup.opened pass.line (fun _ => rfl) h
      exact ⟨t, posted, hexec, hstate, fun h' => (by rw [h] at h'; cases h'), fun _ => ⟨hqueue, hline⟩, hage, hneighbours, hconfig⟩
  · have hservice := openChannelService_of_closed h
    rw [State.attemptsForRoom_none (s := s.modifyChannel c _) hheld] at hservice
    exact request_reply (own := openService (.channel c)) pass rfl hservice
      (hs.settle_same ⟨rfl, rfl⟩ ⟨rfl, rfl, rfl⟩ rfl rfl rfl fun _ => rfl)
  · have hservice := openChannelService_of_opened h
    rw [State.attemptsForRoom_none (s := s.modifyChannel c _) hheld] at hservice
    exact request_reply (own := openService (.channel c)) pass rfl hservice
      (hs.settle_same ⟨rfl, rfl⟩ ⟨rfl, rfl, rfl⟩ rfl rfl rfl fun _ => rfl)
  · rcases hstates with h | h
    · obtain ⟨t, hexec, hup⟩ := hclosed h
      exact ⟨t, hexec, fun _ => hup, fun h' => by rw [h] at h'; cases h'⟩
    · obtain ⟨t, hexec, hup⟩ := hopened h
      exact ⟨t, hexec, fun h' => (by rw [h] at h'; cases h'), fun _ => hup⟩

end Sys2Proof.Machine
end

section
/-! PROOF. The link port closed and opened (07 R141, R143, 09 R162 to R164), and what a site that is given up leaves of slots, class
queues and records (06 R112). -/

namespace Sys2Proof.Machine

/-! ## A site given up -/

theorem State.failAsked_visitors (s : State) (test : Nat → Bool) (cooldown : Bool) :
    (s.failAsked test cooldown).visitors = { s.visitors with records := (s.failAsked test cooldown).visitors.records } := by
  refine State.failAsked_induction (P := fun u => u.visitors = { s.visitors with records := u.visitors.records }) (fun u k hu => ?_) s
    test rfl
  have hone : (u.failTransaction k cooldown).visitors = { u.visitors with records := (u.failTransaction k cooldown).visitors.records } := by
    unfold State.failTransaction
    split <;> rfl
  rw [hone, hu]

/-- Every ASKED transaction to the sites that a test names ended by failure, and every record queued for one of them withdrawn (R112). -/
def State.givenUp (s : State) (test : Nat → Bool) (cooldown : Bool) : State := (s.failAsked test cooldown).withdrawTargets test

/-- A site given up touches the records, the class queues and the slots only. -/
theorem State.givenUp_frame (s : State) (test : Nat → Bool) (cooldown : Bool) : s.givenUp test cooldown = { s with
    visitors := { s.visitors with records := (s.givenUp test cooldown).visitors.records }
    handover := (s.givenUp test cooldown).handover } := by
  have hrest : ∀ u : State, u = { s with visitors := u.visitors, handover := u.handover } →
      u.visitors = { s.visitors with records := u.visitors.records } → u.withdrawTargets test = { s with
        visitors := { s.visitors with records := (u.withdrawTargets test).visitors.records }
        handover := (u.withdrawTargets test).handover } := fun u hu hvisitors => by
    have hwithdrawn : (u.withdrawTargets test).visitors = { u.visitors with records := (u.withdrawTargets test).visitors.records } := rfl
    rw [hvisitors] at hwithdrawn
    have hblocks : u.withdrawTargets test =
        { u with visitors := (u.withdrawTargets test).visitors, handover := (u.withdrawTargets test).handover } := rfl
    rw [← hwithdrawn, hblocks, hu]
  exact hrest _ (s.failAsked_frame test cooldown) (s.failAsked_visitors test cooldown)

theorem State.slots_givenUp (s : State) (test : Nat → Bool) (cooldown : Bool) (j : Fin 8) : (s.givenUp test cooldown).handover.slots[j] =
    if s.asked test j = true then ⟨s.handover.slots[j].generation, none⟩ else s.handover.slots[j] := by
  unfold State.givenUp
  rw [State.slots_withdrawTargets]
  exact s.slots_failAsked test cooldown j

/-- A transaction's end leaves the queue marks of its record (R108). -/
theorem State.releasedBy_marks (s : State) (test : Nat → Bool) (cooldown : Option Nat) (r : Record) :
    (s.releasedBy test cooldown r).queued = r.queued ∧ (s.releasedBy test cooldown r).target = r.target := by
  unfold State.releasedBy
  cases s.askedOf test r <;> exact ⟨rfl, rfl⟩

theorem State.queues_givenUp {s : State} (slots : SlotsExact s) (test : Nat → Bool) (cooldown : Bool) (c : Fin 4) :
    (s.givenUp test cooldown).handover.queues[c] =
      s.handover.queues[c].filter (fun i => !(s.record? i).any (fun r => r.queued && r.target.any test)) := by
  unfold State.givenUp
  rw [HandoverUnit.queues_withdrawTargets, State.queues_failAsked]
  refine List.filter_congr fun i _ => ?_
  rw [State.record?_failAsked slots, Option.any_map]
  refine congrArg (fun p => !Option.any p (s.record? i)) (funext fun r => ?_)
  obtain ⟨hqueued, htarget⟩ := s.releasedBy_marks test (if cooldown then some s.selected.refusalCooldown else none) r
  rw [hqueued, htarget]

theorem State.record?_givenUp {s : State} (slots : SlotsExact s) (test : Nat → Bool) (cooldown : Bool) (i : Index) :
    (s.givenUp test cooldown).record? i = (s.record? i).map (fun r =>
      if (r.queued && r.target.any test) = true
      then (s.releasedBy test (if cooldown then some s.selected.refusalCooldown else none) r).unqueued
      else s.releasedBy test (if cooldown then some s.selected.refusalCooldown else none) r) := by
  unfold State.givenUp
  rw [State.record?_withdrawTargets, State.record?_failAsked slots, Option.map_map]
  refine Option.map_congr fun r _ => ?_
  obtain ⟨hqueued, htarget⟩ := s.releasedBy_marks test (if cooldown then some s.selected.refusalCooldown else none) r
  rw [Function.comp_apply, hqueued, htarget]

/-- The record of an ASKED transaction is not queued, and its end is all that becomes of it (R90, R108). -/
theorem State.record?_givenUp_asked {s : State} (slots : SlotsExact s) (queues : ClassQueuesExact s) {test : Nat → Bool} {cooldown : Bool}
    {j : Fin 8} {x : Transaction} {r : Record} (hx : s.handover.slots[j].transaction = some x) (phase : x.phase = .asked)
    (named : test x.target = true) (hr : s.record? x.record = some r) : (s.givenUp test cooldown).record? x.record =
      some (r.afterFailure x.target (if cooldown then some s.selected.refusalCooldown else none)) := by
  obtain ⟨q, hq, hslot, hstate⟩ := slots.record_of hx
  rw [hr] at hq
  cases hq
  have hqueued : r.queued = false := by
    rw [← Bool.not_eq_true]
    intro h
    have hactive := (queues.queued x.record r hr).1 h
    rw [hstate] at hactive
    cases hactive
  rw [State.record?_givenUp slots, hr, Option.map_some, hqueued, State.releasedBy_of_asked hslot hx phase named]
  rfl

/-- A record whose transaction, if it has one, is not ASKED of such a site loses its place in a class queue at most. -/
theorem State.record?_givenUp_other {s : State} (slots : SlotsExact s) {test : Nat → Bool} {cooldown : Bool} {i : Index} {r : Record}
    (hr : s.record? i = some r) (other : ∀ k, r.slot = some k → s.asked test k = false) :
    (s.givenUp test cooldown).record? i = some (if (r.queued && r.target.any test) = true then r.unqueued else r) := by
  rw [State.record?_givenUp slots, hr, Option.map_some, State.releasedBy_of_not_asked other]

theorem State.record?_givenUp_none {s : State} (slots : SlotsExact s) {test : Nat → Bool} {cooldown : Bool} {i : Index}
    (h : s.record? i = none) : (s.givenUp test cooldown).record? i = none := by
  rw [State.record?_givenUp slots, h, Option.map_none]

/-! ## The link port closed -/

theorem State.asked_all (s : State) (j : Fin 8) : s.asked (fun _ => true) j = true ↔ s.phase? j = some .asked := by
  rw [State.asked_eq_true, State.phase?, Option.map_eq_some_iff]
  simp

/-- What a closing of the link port makes of slots, class queues and records, behind the neighbours that go DOWN (R141). -/
structure Islanded (s u : State) : Prop where
  freed : ∀ j : Fin 8, s.phase? j = some .asked → u.handover.slots[j] = ⟨s.handover.slots[j].generation, none⟩
  slots : ∀ j : Fin 8, s.phase? j ≠ some .asked → u.handover.slots[j] = s.handover.slots[j]
  queues : ∀ q : Fin 4, u.handover.queues[q] = []
  released : ∀ (j : Fin 8) (x : Transaction) (r : Record), s.handover.slots[j].transaction = some x → x.phase = .asked →
    s.record? x.record = some r → u.record? x.record = some (r.afterFailure x.target (some s.selected.refusalCooldown))
  others : ∀ (i : Index) (r : Record), s.record? i = some r → (∀ j : Fin 8, r.slot = some j → s.phase? j ≠ some .asked) →
    u.record? i = some { r with queued := false, target := none }
  vacant : ∀ i : Index, s.record? i = none → u.record? i = none

theorem Islanded.of_givenUp {s : State} (slots : SlotsExact s) (queues : ClassQueuesExact s) :
    Islanded s (s.givenUp (fun _ => true) true) where
  freed j hj := by rw [State.slots_givenUp, if_pos ((s.asked_all j).mpr hj)]
  slots j hj := by rw [State.slots_givenUp, if_neg (mt (s.asked_all j).mp hj)]
  queues q := by
    rw [State.queues_givenUp slots, List.filter_eq_nil_iff]
    intro i hi
    obtain ⟨r, hr, hmember⟩ := (Option.any_eq_true _ _).mp ((queues.mem_iff q i).mp hi)
    have hqueued : r.queued = true := by
      rw [Bool.and_eq_true, Bool.and_eq_true] at hmember
      exact hmember.1.2
    obtain ⟨site, hsite⟩ := Option.isSome_iff_exists.mp ((queues.queued i r hr).2.trans hqueued)
    rw [hr, Option.any_some, hqueued, hsite]
    exact Bool.false_ne_true
  released j x r hx phase hr := State.record?_givenUp_asked slots queues hx phase rfl hr
  others i r hr other := by
    have hasked : ∀ k, r.slot = some k → s.asked (fun _ => true) k = false := fun k hk => by
      rw [← Bool.not_eq_true, State.asked_all]
      exact other k hk
    rw [State.record?_givenUp_other slots hr hasked]
    have htarget := (queues.queued i r hr).2
    cases hqueued : r.queued with
    | true =>
      rw [hqueued] at htarget
      obtain ⟨site, hsite⟩ := Option.isSome_iff_exists.mp htarget
      rw [hsite]
      rfl
    | false =>
      rw [hqueued] at htarget
      have hnone : r.target = none := by rw [← Option.not_isSome_iff_eq_none, htarget]; exact Bool.false_ne_true
      rw [Bool.false_and, if_neg Bool.false_ne_true, ← hqueued, ← hnone]
  vacant i hi := State.record?_givenUp_none slots hi

theorem Islanded.of_same {s u v : State} (h : Islanded s u) (handover : v.handover = u.handover)
    (records : v.visitors.records = u.visitors.records) : Islanded s v := by
  have hrecord : ∀ i : Index, v.record? i = u.record? i := fun i => by rw [State.record?, State.record?, records]
  exact ⟨fun j hj => handover ▸ h.freed j hj, fun j hj => handover ▸ h.slots j hj, fun q => handover ▸ h.queues q,
    fun j x r hx hp hr => (hrecord _).trans (h.released j x r hx hp hr), fun i r hr ho => (hrecord i).trans (h.others i r hr ho),
    fun i hi => (hrecord i).trans (h.vacant i hi)⟩

/-- The link port, the map and the alarm of a closing, behind any change of the records and of the handover unit (R128, R141). -/
theorem State.linkShut_frame (s : State) (records : Vector (Option Record) 384) (handover : HandoverUnit) (cause : Kind) :
    ({ s with visitors := { s.visitors with records := records }, handover := handover } : State).linkShut.raiseAlarm
        .linkClosed cause.code =
      { s with
        visitors := { s.visitors with records := records }
        handover := handover
        interest := s.interest.closed
        ports := { s.ports with
          link := { s.ports.link with isOpen := false, queue := [], refreshOwed := false }
          maintenance := { s.ports.maintenance with alarms := raiseIn .linkClosed cause.code s.ports.maintenance.alarms } } } := rfl

/-- A closing of the link port touches the records, the handover unit, the neighbours, the link port, the map's owed LEAVEs and the
alarms (R128, R141). -/
theorem State.closeLink_frame (s : State) (cause : Kind) : s.closeLink cause = { s.allDown with
    visitors := { s.visitors with records := (s.allDown.givenUp (fun _ => true) true).visitors.records }
    handover := (s.allDown.givenUp (fun _ => true) true).handover
    interest := s.interest.closed
    ports := { s.ports with
      link := { s.ports.link with isOpen := false, queue := [], refreshOwed := false }
      maintenance := { s.ports.maintenance with alarms := raiseIn .linkClosed cause.code s.ports.maintenance.alarms } } } := by
  have hislanded : s.islanded = s.allDown.givenUp (fun _ => true) true := rfl
  rw [State.closeLink_eq, hislanded]
  exact (congrArg (fun v => v.linkShut.raiseAlarm .linkClosed cause.code) (s.allDown.givenUp_frame _ _)).trans
    (s.allDown.linkShut_frame _ _ cause)

theorem Islanded.closeLink {s : State} (slots : SlotsExact s) (queues : ClassQueuesExact s) (cause : Kind) :
    Islanded s (s.closeLink cause) := by
  have hdown : Islanded s.allDown (s.allDown.givenUp (fun _ => true) true) :=
    .of_givenUp ⟨slots.named, slots.transit⟩ ⟨queues.nodup, queues.mem_iff, queues.queued⟩
  have hs : Islanded s (s.allDown.givenUp (fun _ => true) true) :=
    ⟨hdown.freed, hdown.slots, hdown.queues, hdown.released, hdown.others, hdown.vacant⟩
  exact hs.of_same (by rw [State.closeLink_frame]) (by rw [State.closeLink_frame])

theorem State.neighbours_closeLink (s : State) (cause : Kind) (k : Fin 12) :
    (s.closeLink cause).neighbours[k] = s.neighbours[k].map (fun n => { n with link := .down }) := by
  rw [State.closeLink_frame]
  simp [State.allDown]

theorem ConfigKept.closeLink (s : State) (cause : Kind) : ConfigKept s (s.closeLink cause) := by
  rw [State.closeLink_frame]
  exact ⟨rfl, rfl, rfl, rfl, rfl, rfl, rfl, rfl⟩

theorem State.outbound_closeLink (s : State) (cause : Kind) (p : Port) : (s.closeLink cause).outbound p = s.outbound p := by
  have hports := congrArg State.ports (s.closeLink_frame cause)
  dsimp only at hports
  cases p <;> simp only [State.outbound, hports]

/-- With no room in the link queue the attention line of an empty one is low (R176). -/
theorem State.refreshLines_link_empty {s : State} (h : s.ports.link.queue = []) : s.refreshLines.ports.link.attention = false := by
  show linkCondition s.ports.link.queue _ _ = false
  rw [h]
  cases s.ports.threshold <;> rfl

/-- Settles O18: the link port is closed, so the end of the step grants nothing behind it. -/
theorem closeLinkPortMakesIsland : Obligations.CloseLinkPortMakesIsland := by
  intro s c p k slots queues pass hcase
  have hrequest : kindCounted k = false ∧ ∃ own, exec c s = request k p true false true own s ∧ own s = (s.closeLink k, fun _ =>
      .done false none (.closed (s.portState .link) s.ports.link.queue.length)) := by
    rcases hcase with ⟨rfl, rfl, rfl⟩ | ⟨rfl, rfl, rfl⟩
    · exact ⟨rfl, closePort .link .closePort, rfl, rfl⟩
    · exact ⟨rfl, forceCloseService 1, rfl, rfl⟩
  obtain ⟨uncounted, own, hexec, hserved⟩ := hrequest
  obtain ⟨t, hnext, hup⟩ := request_upToGrants pass uncounted hserved
  have hframe := s.closeLink_frame k
  have hports := congrArg State.ports hframe
  dsimp only at hports
  have hline : (s.closeLink k).outbound p = [] := by rw [State.outbound_closeLink]; exact pass.line
  have hroom : ((s.closeLink k).confirm p ⟨k.code, .done false none (.closed (s.portState .link) s.ports.link.queue.length)⟩).linkHasRoom =
      false := by
    simp only [State.linkHasRoom, State.confirm, State.setOutbound_link_isOpen, State.setOutbound_link_queue, hports, Bool.false_and]
  obtain ⟨hvisitors, hclaims, hhandover, hinterest, hqueue, howed⟩ := hup.noRoom hroom
  rw [State.confirm_visitors] at hvisitors
  rw [State.confirm_claims] at hclaims
  rw [State.confirm_handover] at hhandover
  rw [State.confirm_interest] at hinterest
  have hmap : t.interest = s.interest.closed := by rw [hinterest, hframe]
  have howners : t.claims = s.claims := by rw [hclaims, hframe]; rfl
  rw [State.confirm, State.setOutbound_link_queue, hports] at hqueue
  rw [State.confirm, State.setOutbound_link_refreshOwed, hports] at howed
  have hisland : Islanded s t :=
    (Islanded.closeLink slots queues k).of_same hhandover (congrArg VisitorTable.records hvisitors)
  have hattention : t.ports.link.attention = false := by
    obtain ⟨v, -, rfl⟩ := hup.reached
    exact State.refreshLines_link_empty hqueue
  refine ⟨t, hexec.trans hnext, ?_, hqueue, howed, hattention, fun j => ?_, hisland.freed, hisland.slots, hisland.queues,
    hisland.released, hisland.others, fun j => ?_, by rw [hmap]; rfl, by rw [hmap]; rfl,
    howners, ?_, hup.line hline, fun d => ⟨?_, ?_⟩, fun q hq => ?_, fun hsweep => ?_, hisland.vacant, ?_, ?_, ?_,
    ((ConfigKept.closeLink s k).trans (.confirm _ _ _)).trans hup.toEndOfStepFrame.config⟩
  · rw [hup.isOpen, State.confirm, State.setOutbound_link_isOpen, hports]
  · rw [hup.neighbours, State.confirm_neighbours, State.neighbours_closeLink]
  · rw [hmap]
    exact getElem_mapTable ..
  · rw [hup.alarms, State.confirm, State.setOutbound_maintenance_alarms, hports]
  · rw [hup.channelQueue, State.confirm, State.setOutbound_channel_queue, hports]
  · rw [hup.channelState, State.confirm, State.setOutbound_channel_state, hports]
  · rw [hup.outbound, State.outbound_confirm_other _ _ hq, State.outbound_closeLink]
  · have hkept : (s.closeLink k).sweep = s.sweep := by rw [hframe]; rfl
    obtain ⟨hunit, hchatter⟩ := hup.sweep (by rw [State.confirm_sweep, hkept]; exact hsweep)
    refine ⟨by rw [hunit, State.confirm_sweep, hkept], fun d => ?_⟩
    rw [hchatter, State.confirm, State.setOutbound_channel_chatter, hports]
  · rw [hvisitors, hframe]
  · rw [hvisitors, hframe]
  · rw [hvisitors, hframe]

/-! ## The link port opened -/

theorem State.checkSweep_link (s : State) : s.checkSweep.ports.link = s.ports.link := by
  unfold State.checkSweep
  split
  · dsimp only
    split
    · rw [State.startSweep_link]
      rfl
    · rfl
  · rfl

/-- On an empty queue the grants of a step post the owed REFRESH before anything else (R144 to R146). -/
theorem UpToGrants.refresh_first {s t : State} (h : UpToGrants s t) (opened : s.ports.link.isOpen = true)
    (owed : s.ports.link.refreshOwed = true) (empty : s.ports.link.queue = []) :
    t.ports.link.refreshOwed = false ∧ ∃ rest, t.ports.link.queue = ⟨.refresh s.protection.site, 0⟩ :: rest := by
  obtain ⟨v, hrun, rfl⟩ := h.reached
  have hlink := s.checkSweep_link
  have hgrant : s.checkSweep.grantPlace = some s.checkSweep.postRefresh := by
    unfold State.grantPlace
    rw [State.linkHasRoom, hlink, opened, empty, owed]
    rfl
  cases hrun with
  | done hnone => rw [hgrant] at hnone; cases hnone
  | place hplace hrest =>
    rw [hgrant] at hplace
    cases hplace
    rw [hrest.eq_runArbiter]
    have hframe := State.kept_runArbiter s.checkSweep.postRefresh
    obtain ⟨posted, hposted⟩ := hframe.posted
    refine ⟨hframe.refreshOwed rfl, posted.map (fun n => ⟨n, 0⟩), ?_⟩
    have hqueue : s.checkSweep.postRefresh.ports.link.queue = [⟨.refresh s.protection.site, 0⟩] := by
      show s.checkSweep.ports.link.queue ++ [⟨.refresh s.checkSweep.protection.site, 0⟩] = _
      rw [hlink, empty, State.checkSweep_protection]
      rfl
    show (State.runArbiter _).ports.link.queue = _
    rw [hposted, hqueue]
    rfl

/-- The map of a link port closed and opened again (R128, R129). -/
theorem InterestMap.places_opened_closed (m : InterestMap) (j : Place) :
    m.closed.opened.places[j] = m.places[j].map (fun e => { e with announced := false, leaveOwed := false }) := by
  have hopened : m.closed.opened.places[j] = m.closed.places[j].map (fun e => { e with announced := false }) := getElem_mapTable ..
  have hclosed : m.closed.places[j] = m.places[j].map (fun e => { e with leaveOwed := false }) := getElem_mapTable ..
  rw [hopened, hclosed, Option.map_map]
  rfl

theorem State.openLink_frame (s : State) : s.openLink = { s with
    interest := s.interest.opened
    ports := { s.ports with link := { s.ports.link with isOpen := true, refreshOwed := true } } } := rfl

/-- A link port reopened: a closure, and then an opening (R162). -/
def State.reopened (s : State) : State := (s.closeLink .openPort).openLink

theorem State.reopened_frame (s : State) : s.reopened = { s.allDown with
    visitors := { s.visitors with records := (s.allDown.givenUp (fun _ => true) true).visitors.records }
    handover := (s.allDown.givenUp (fun _ => true) true).handover
    interest := s.interest.closed.opened
    ports := { s.ports with
      link := { s.ports.link with isOpen := true, queue := [], refreshOwed := true }
      maintenance := { s.ports.maintenance with alarms := raiseIn .linkClosed 2 s.ports.maintenance.alarms } } } := by
  rw [State.reopened, State.openLink_frame, State.closeLink_frame]
  rfl

theorem State.openLink_keeps (s : State) : s.openLink.handover = s.handover ∧ s.openLink.visitors = s.visitors
    ∧ s.openLink.neighbours = s.neighbours := ⟨rfl, rfl, rfl⟩

theorem Islanded.reopened {s : State} (slots : SlotsExact s) (queues : ClassQueuesExact s) : Islanded s s.reopened := by
  obtain ⟨hhandover, hvisitors, -⟩ := (s.closeLink .openPort).openLink_keeps
  exact (Islanded.closeLink slots queues .openPort).of_same hhandover (congrArg VisitorTable.records hvisitors)

theorem State.neighbours_reopened (s : State) (k : Fin 12) :
    s.reopened.neighbours[k] = s.neighbours[k].map (fun n => { n with link := .down }) := by
  obtain ⟨-, -, hneighbours⟩ := (s.closeLink .openPort).openLink_keeps
  rw [State.reopened, hneighbours, State.neighbours_closeLink]

theorem ConfigKept.reopened (s : State) : ConfigKept s s.reopened := by
  rw [State.reopened_frame]
  exact ⟨rfl, rfl, rfl, rfl, rfl, rfl, rfl, rfl⟩

/-- Settles O16: the REFRESH is owed when the queue is empty, and the end of the step grants it first. -/
theorem openLinkPortPostsRefreshFirst : Obligations.OpenLinkPortPostsRefreshFirst := by
  intro s pass hempty
  cases hopen : s.ports.link.isOpen with
  | false =>
    have hserved : openService .link s = (s.openLink, fun _ => .done false none (.opened .closed none)) := by
      show openLinkService s = _
      rw [openLinkService, hopen]
      rfl
    obtain ⟨t, hnext, hup⟩ := request_upToGrants (own := openService .link) pass rfl hserved
    obtain ⟨howed, rest, hqueue⟩ := hup.refresh_first rfl rfl (hempty hopen)
    have hconfig : ConfigKept s s.openLink := ⟨rfl, rfl, rfl, rfl, rfl, rfl, rfl, rfl⟩
    exact ⟨t, rest, hnext, hup.isOpen, howed, hqueue, fun _ => hup, nofun, nofun, hup.age,
      (hconfig.trans (.confirm _ _ _)).trans hup.toEndOfStepFrame.config⟩
  | true =>
    have hserved : openService .link s = (s.reopened, fun _ => .done false none (.opened .opened (some s.ports.link.queue.length))) := by
      show openLinkService s = _
      rw [openLinkService, hopen]
      rfl
    obtain ⟨t, hnext, hup⟩ := request_upToGrants (own := openService .link) pass rfl hserved
    have hframe := s.reopened_frame
    have hports := congrArg State.ports hframe
    dsimp only at hports
    have hline : s.reopened.outbound .link = [] := by
      simp only [State.outbound, hports]
      exact pass.line
    have hsite : s.reopened.protection.site = s.protection.site := by rw [hframe]; rfl
    obtain ⟨howed, rest, hqueue⟩ := hup.refresh_first
      (by rw [State.confirm, State.setOutbound_link_isOpen, hports])
      (by rw [State.confirm, State.setOutbound_link_refreshOwed, hports])
      (by rw [State.confirm, State.setOutbound_link_queue, hports])
    rw [State.confirm_protection, hsite] at hqueue
    refine ⟨t, rest, hnext, ?_, howed, hqueue, nofun, fun _ => ⟨fun k => ?_, ?_, hup.line hline⟩, fun _ slots queues => ?_, ?_,
      ((ConfigKept.reopened s).trans (.confirm _ _ _)).trans hup.toEndOfStepFrame.config⟩
    · rw [hup.isOpen, State.confirm, State.setOutbound_link_isOpen, hports]
    · rw [hup.neighbours, State.confirm_neighbours, State.neighbours_reopened]
    · rw [hup.alarms, State.confirm, State.setOutbound_maintenance_alarms, hports]
    · have hisland := Islanded.reopened slots queues
      refine ⟨s.reopened, hup, s.neighbours_reopened, hisland.freed, hisland.slots, hisland.queues, hisland.released, hisland.others,
        hisland.vacant, fun j => ?_, ?_⟩
      · rw [hframe]
        exact s.interest.places_opened_closed j
      · rw [hframe]
        exact ⟨rfl, rfl, rfl, rfl, rfl, rfl, rfl, rfl, rfl, rfl, ⟨rfl, rfl, rfl, rfl, rfl, rfl, rfl, rfl⟩⟩
    · rw [hup.age, State.confirm_visitors, hframe]

end Sys2Proof.Machine
end

section
/-! PROOF. LINK STATUS and SET NEIGHBOUR (07 R135 to R140): what a site that goes DOWN or leaves the neighbour table takes with it. -/

namespace Sys2Proof.Machine

/-! ## No transaction and no queued record towards a site -/

/-- No transaction is ASKED of a site, no record is queued for it, and every class queue holds queued records with a target. -/
structure SiteFree (site : Nat) (s : State) : Prop where
  asked : ∀ (k : Fin 8) (x : Transaction), s.handover.slots[k].transaction = some x → x.phase = .asked → x.target ≠ site
  record : ∀ (i : Index) (r : Record), s.record? i = some r → r.queued = true → r.target ≠ some site
  queue : ∀ (c : Fin 4) (i : Index), i ∈ s.handover.queues[c] →
    ∃ r, s.record? i = some r ∧ r.queued = true ∧ r.target.isSome = true

theorem SiteFree.same {site : Nat} {s t : State} (h : SiteFree site s) (handover : t.handover = s.handover)
    (marks : ∀ i : Index, (t.record? i).map (fun r => (r.queued, r.target)) = (s.record? i).map (fun r => (r.queued, r.target))) :
    SiteFree site t := by
  refine ⟨fun k x hx => h.asked k x (handover ▸ hx), fun i q hq hqueued => ?_, fun c i hi => ?_⟩
  · obtain ⟨r, hr, hmarks⟩ := exists_of_map_eq (marks i) hq
    obtain ⟨hsame, htarget⟩ := Prod.mk.inj hmarks
    rw [← htarget]
    exact h.record i r hr (hsame.trans hqueued)
  · obtain ⟨r, hr, hqueued, hsome⟩ := h.queue c i (handover ▸ hi)
    obtain ⟨q, hq, hmarks⟩ := exists_of_map_eq (marks i).symm hr
    obtain ⟨hsame, htarget⟩ := Prod.mk.inj hmarks
    exact ⟨q, hq, hsame.trans hqueued, by rw [htarget]; exact hsome⟩

theorem SiteFree.of_eq {site : Nat} {s t : State} (h : SiteFree site s) (handover : t.handover = s.handover)
    (records : t.visitors.records = s.visitors.records) : SiteFree site t :=
  h.same handover fun i => by simp only [State.record?, records]

/-- A grant asks the target of a queued record, which is not the site (R93). -/
theorem SiteFree.grant {site : Nat} {s : State} (h : SiteFree site s) {k : Fin 8} {i : Index} {r : Record}
    (hg : s.nextGrant? = some (k, i, r)) : SiteFree site (s.grant k i r) := by
  obtain ⟨-, ⟨c, hc⟩, hr⟩ := State.nextGrant?_eq_some hg
  obtain ⟨q, hq, hqueued, hsome⟩ := h.queue c i hc
  rw [hr] at hq
  cases hq
  obtain ⟨target, htarget⟩ := Option.isSome_iff_exists.mp hsome
  have hother : target ≠ site := fun hsite => h.record i r hr hqueued (by rw [htarget, hsite])
  have hrecord : ∀ j : Index, (s.grant k i r).record? j = if j = i then (s.record? i).map (fun x => x.granted k) else s.record? j :=
    fun j => s.record?_modifyRecord i j (f := fun x => x.granted k)
  have hslot : ∀ j : Fin 8, (s.grant k i r).handover.slots[j] =
      if j = k then s.handover.slots[k].granted i (r.target.getD 0) s.selected else s.handover.slots[j] := fun j =>
    getElem_set_fin s.handover.slots k j _
  refine ⟨fun j x hx phase => ?_, fun j q hq => ?_, fun d j hj => ?_⟩
  · rw [hslot] at hx
    split at hx
    next =>
      rw [htarget] at hx
      have hx : (s.handover.slots[k].granted i target s.selected).transaction = some x := hx
      cases hx
      exact hother
    next => exact h.asked j x hx phase
  · rw [hrecord] at hq
    split at hq
    next =>
      rw [hr] at hq
      cases hq
      exact nofun
    next => exact h.record j q hq
  · have hqueue : (s.grant k i r).handover.queues[d] = s.handover.queues[d].filter (fun j => j != i) :=
      HandoverUnit.queues_dequeue s.handover i d
    rw [hqueue, List.mem_filter] at hj
    obtain ⟨hmem, hne⟩ := hj
    obtain ⟨q, hq, hmarks⟩ := h.queue d j hmem
    exact ⟨q, by rw [hrecord, if_neg (bne_iff_ne.mp hne), hq], hmarks⟩

theorem SiteFree.grantPlace {site : Nat} {s t : State} (hg : s.grantPlace = some t) (h : SiteFree site s) : SiteFree site t := by
  obtain ⟨-, h1 | h1 | h1 | h1 | h1⟩ := State.grantPlace_cases hg
  · obtain ⟨-, rfl⟩ := h1
    exact h.of_eq rfl rfl
  · obtain ⟨-, e, rest, -, rfl⟩ := h1
    exact h.same rfl (State.map_modifyRecord (f := fun r => { r with claimPending := false }) (m := fun r => (r.queued, r.target))
      fun _ _ => rfl)
  · obtain ⟨-, -, tg, rest, -, rfl⟩ := h1
    exact h.of_eq rfl rfl
  · obtain ⟨-, -, -, k, tg, -, rfl⟩ := h1
    exact h.of_eq rfl rfl
  · obtain ⟨-, -, -, -, k, i, r, hnext, rfl⟩ := h1
    exact h.grant hnext

theorem SiteFree.settle {site : Nat} {s : State} (h : SiteFree site s) : SiteFree site s.settle :=
  State.settle_induction (P := SiteFree site) (fun _ h => h.of_eq (by simp) (by simp)) (fun _ _ => SiteFree.grantPlace)
    (fun _ h => h.of_eq rfl rfl) h

/-! ## A site cleared -/

theorem any_beq_eq (o : Option Nat) (site : Nat) : o.any (fun t => t == site) = (o == some site) := by
  cases o <;> rfl

/-- A record that is queued has no slot (R3, R90). -/
theorem SlotsExact.slot_of_queued {s : State} (slots : SlotsExact s) (queues : ClassQueuesExact s) {i : Index} {r : Record}
    (hr : s.record? i = some r) (hqueued : r.queued = true) : r.slot = none :=
  slots.slot_none hr (by rw [(queues.queued i r hr).1 hqueued]; exact nofun)

/-- Behind a site cleared nothing leads towards it any more. -/
theorem SiteCleared.siteFree {s u : State} {site : Nat} {kept ended : List NeighbourEntry → List NeighbourEntry}
    (h : SiteCleared s u site kept ended) (slots : SlotsExact s) (queues : ClassQueuesExact s) : SiteFree site u where
  asked k x hx phase hsite := by
    by_cases hold : ∀ y : Transaction, s.handover.slots[k].transaction = some y → y.phase ≠ .asked ∨ y.target ≠ site
    · rw [h.slots k hold] at hx
      rcases hold x hx with hp | hp
      · exact hp phase
      · exact hp hsite
    · push Not at hold
      obtain ⟨y, hy, hphase, htarget⟩ := hold
      rw [h.freed k y hy hphase htarget] at hx
      cases hx
  record i q hq hqueued htarget := by
    cases hr : s.record? i with
    | none => rw [h.vacant i hr] at hq; cases hq
    | some r =>
      by_cases hold : r.queued = true ∧ r.target = some site
      · rw [h.withdrawn i r hr hold.1 hold.2] at hq
        cases hq
        cases hqueued
      · by_cases hasked : ∃ (j : Fin 8) (x : Transaction), r.slot = some j ∧ s.handover.slots[j].transaction = some x ∧ x.phase = .asked
            ∧ x.target = site
        · obtain ⟨j, x, hslot, hx, hphase, hsite⟩ := hasked
          have hname := (slots.named j i).mpr (by rw [hr, Option.any_some, hslot, beq_self_eq_true])
          rw [hx] at hname
          cases hname
          rw [h.released j x r hx hphase hsite hr] at hq
          cases hq
          rw [slots.slot_of_queued queues hr hqueued] at hslot
          cases hslot
        · push Not at hasked
          rw [h.others i r hr (by by_contra hn; push Not at hn; exact hold ⟨by simpa using hn.1, hn.2⟩) fun j x hslot hx => by
            by_cases hphase : x.phase = .asked
            · exact Or.inr (hasked j x hslot hx hphase)
            · exact Or.inl hphase] at hq
          cases hq
          exact hold ⟨hqueued, htarget⟩
  queue c i hi := by
    rw [h.queues, List.mem_filter] at hi
    obtain ⟨hmem, hkept⟩ := hi
    obtain ⟨r, hr, hmember⟩ := (Option.any_eq_true _ _).mp ((queues.mem_iff c i).mp hmem)
    rw [Bool.and_eq_true, Bool.and_eq_true] at hmember
    obtain ⟨⟨-, hqueued⟩, -⟩ := hmember
    rw [hr, Option.any_some, hqueued, Bool.true_and, Bool.not_eq_true', beq_eq_false_iff_ne] at hkept
    refine ⟨_, h.others i r hr (Or.inr hkept) fun j x hslot => ?_, hqueued, (queues.queued i r hr).2.trans hqueued⟩
    rw [slots.slot_of_queued queues hr hqueued] at hslot
    cases hslot

/-- A site given up is cleared, its entries kept with the refusal cooldown where a transaction ended (R108, R112). -/
theorem SiteCleared.of_givenUp {s u : State} (slots : SlotsExact s) (queues : ClassQueuesExact s) (site : Nat)
    (handover : u.handover = (s.givenUp (fun t => t == site) true).handover)
    (visitors : u.visitors = (s.givenUp (fun t => t == site) true).visitors) (claims : u.claims = s.claims)
    (interest : u.interest = s.interest) (sweep : u.sweep = s.sweep) (config : ConfigKept s u) :
    SiteCleared s u site (fun l => l) (fun l => l.map (fun e => e.afterEnd site (some s.selected.refusalCooldown))) := by
  have hframe : (s.givenUp (fun t => t == site) true).visitors =
      { s.visitors with records := (s.givenUp (fun t => t == site) true).visitors.records } := by
    have h := congrArg State.visitors (s.givenUp_frame (fun t => t == site) true)
    exact h
  have hrecord : ∀ i : Index, u.record? i = (s.givenUp (fun t => t == site) true).record? i := fun i => by
    rw [State.record?, State.record?, visitors]
  have hasked : ∀ {j : Fin 8}, (∀ x, s.handover.slots[j].transaction = some x → x.phase ≠ .asked ∨ x.target ≠ site) →
      s.asked (fun t => t == site) j = false := fun {j} hother => by
    rw [← Bool.not_eq_true, State.asked_eq_true]
    rintro ⟨x, hx, hphase, htarget⟩
    rcases hother x hx with h | h
    · exact h hphase
    · exact h (beq_iff_eq.mp htarget)
  exact
    { freed := fun j x hx phase target => by
        rw [handover, State.slots_givenUp, if_pos ((State.asked_eq_true (test := fun t => t == site)).mpr
          ⟨x, hx, phase, beq_iff_eq.mpr target⟩)]
      slots := fun j hj => by
        rw [handover, State.slots_givenUp, hasked hj]
        exact if_neg Bool.false_ne_true
      queues := fun c => by
        rw [handover, State.queues_givenUp slots]
        simp only [any_beq_eq]
      released := fun j x r hx phase target hr => by
        rw [hrecord, State.record?_givenUp_asked (test := fun t => t == site) slots queues hx phase (beq_iff_eq.mpr target) hr, ← target]
        rfl
      withdrawn := fun i r hr hqueued htarget => by
        rw [hrecord, State.record?_givenUp_other slots hr fun k hk => by
          rw [slots.slot_of_queued queues hr hqueued] at hk; cases hk]
        rw [any_beq_eq, hqueued, htarget, beq_self_eq_true]
        rfl
      others := fun i r hr hnot hother => by
        have hmark : ¬((r.queued && r.target == some site) = true) := by
          rw [Bool.and_eq_true, beq_iff_eq]
          rintro ⟨hqueued, htarget⟩
          rcases hnot with h | h
          · rw [hqueued] at h; cases h
          · exact h htarget
        rw [hrecord, State.record?_givenUp_other slots hr fun k hk => hasked fun x => hother k x hk, any_beq_eq, if_neg hmark]
      vacant := fun i hi => by rw [hrecord, State.record?_givenUp_none slots hi]
      chains := by rw [visitors, hframe]
      age := by rw [visitors, hframe]
      free := by rw [visitors, hframe]
      claims := claims
      interest := interest
      sweep := sweep
      config := config }

/-! ## LINK STATUS -/

/-- A neighbour's going DOWN touches the records, the handover unit and the alarms (R139). -/
theorem State.neighbourDown_frame (s : State) (site : Nat) : s.neighbourDown site = { s with
    visitors := { s.visitors with records := (s.givenUp (fun t => t == site) true).visitors.records }
    handover := (s.givenUp (fun t => t == site) true).handover
    ports := { s.ports with
      maintenance := { s.ports.maintenance with alarms := raiseIn .neighbourDown site s.ports.maintenance.alarms } } } :=
  congrArg (fun v => v.raiseAlarm .neighbourDown site) (s.givenUp_frame _ _)

theorem SiteCleared.neighbourDown {s : State} (slots : SlotsExact s) (queues : ClassQueuesExact s) (site : Nat) :
    SiteCleared s (s.neighbourDown site) site (fun l => l)
      (fun l => l.map (fun e => e.afterEnd site (some s.selected.refusalCooldown))) := by
  have hvisitors := congrArg State.visitors (s.givenUp_frame (fun t => t == site) true)
  have hframe := s.neighbourDown_frame site
  refine .of_givenUp slots queues site ?_ ?_ ?_ ?_ ?_ ?_
  · rw [hframe]
  · rw [hframe]
    exact hvisitors.symm
  · rw [hframe]
  · rw [hframe]
  · rw [hframe]
  · rw [hframe]
    exact ⟨rfl, rfl, rfl, rfl, rfl, rfl, rfl, rfl⟩

/-- A confirmation and a slot of the neighbour table are nothing that a site cleared speaks of. -/
theorem SiteCleared.confirm {s u : State} {site : Nat} {kept ended : List NeighbourEntry → List NeighbourEntry}
    (h : SiteCleared s u site kept ended) (p : Port) (c : Confirmation) : SiteCleared s (u.confirm p c) site kept ended where
  freed j x hx hp ht := by rw [State.confirm_handover]; exact h.freed j x hx hp ht
  slots j hj := by rw [State.confirm_handover]; exact h.slots j hj
  queues d := by rw [State.confirm_handover]; exact h.queues d
  released j x r hx hp ht hr := by rw [State.record?_confirm]; exact h.released j x r hx hp ht hr
  withdrawn i r hr hq ht := by rw [State.record?_confirm]; exact h.withdrawn i r hr hq ht
  others i r hr hn ho := by rw [State.record?_confirm]; exact h.others i r hr hn ho
  vacant i hi := by rw [State.record?_confirm]; exact h.vacant i hi
  chains := by rw [State.confirm_visitors]; exact h.chains
  age := by rw [State.confirm_visitors]; exact h.age
  free := by rw [State.confirm_visitors]; exact h.free
  claims := by rw [State.confirm_claims]; exact h.claims
  interest := by rw [State.confirm_interest]; exact h.interest
  sweep := by rw [State.confirm_sweep]; exact h.sweep
  config := h.config.trans (.confirm u p c)

/-- The record of a transaction that ended is in no class queue, so no grant of the same step takes it (R90, R93). -/
theorem SiteCleared.released_settled {s u t : State} {site : Nat} {kept ended : List NeighbourEntry → List NeighbourEntry}
    (h : SiteCleared s u site kept ended) (hup : UpToGrants u t) (slots : SlotsExact s) (queues : ClassQueuesExact s) {j : Fin 8}
    {x : Transaction} {r : Record} (hx : s.handover.slots[j].transaction = some x) (phase : x.phase = .asked) (target : x.target = site)
    (hr : s.record? x.record = some r) : ∃ q, t.record? x.record = some q ∧ q.state = .active ∧ q.slot = none
      ∧ q.neighbours = ended r.neighbours := by
  have hu := h.released j x r hx phase target hr
  obtain ⟨q, hq, hslot, hstate⟩ := slots.record_of hx
  rw [hr] at hq
  cases hq
  have hfree := h.siteFree slots queues
  obtain ⟨q, hq, hkept⟩ := hup.bystander x.record _ hu fun c hc => by
    obtain ⟨y, hy, hqueued, -⟩ := hfree.queue c x.record hc
    rw [hu] at hy
    cases hy
    rw [slots.slot_of_queued queues hr hqueued] at hslot
    cases hslot
  refine ⟨q, hq, ?_, ?_, ?_⟩
  · rw [hkept]
  · rw [hkept]
  · rw [hkept]

/-- A transaction that a site cleared leaves alone, the end of the step leaves alone too. -/
theorem SiteCleared.slots_settled {s u t : State} {site : Nat} {kept ended : List NeighbourEntry → List NeighbourEntry}
    (h : SiteCleared s u site kept ended) (hup : UpToGrants u t) {j : Fin 8} {x : Transaction}
    (hx : s.handover.slots[j].transaction = some x) (other : x.phase ≠ .asked ∨ x.target ≠ site) :
    t.handover.slots[j] = s.handover.slots[j] := by
  have hu : u.handover.slots[j] = s.handover.slots[j] := h.slots j fun y hy => by
    rw [hx] at hy
    cases hy
    exact other
  rw [hup.slots j x (by rw [hu]; exact hx), hu]

theorem SiteCleared.siteFree_settled {s u t : State} {site : Nat} {kept ended : List NeighbourEntry → List NeighbourEntry}
    (h : SiteCleared s u site kept ended) (hup : UpToGrants u t) (slots : SlotsExact s) (queues : ClassQueuesExact s) :
    SiteFree site t := by
  rw [hup.eq_settle]
  exact (h.siteFree slots queues).settle

theorem exec_linkStatus {s : State} {site code : Nat} {l : LinkState} (other : s.NamesOtherSite site)
    (state : LinkState.ofCode code = some l) (p : Port) :
    exec (.linkStatus p site code) s = request .linkStatus p true false true (linkStatusService site code) s := by
  obtain ⟨low, high, hown⟩ := other
  have hrange : linkStatusInRange s.protection.site site code = true := by
    rw [linkStatusInRange, siteInRange_iff.mpr ⟨low, high⟩, state]
    simp [hown]
  show request .linkStatus p true false (linkStatusInRange s.protection.site site code) (linkStatusService site code) s = _
  rw [hrange]

theorem linkStatusService_eq {s : State} {site code : Nat} {l : LinkState} {k : Fin 12} {n : Neighbour}
    (state : LinkState.ofCode code = some l) (slot : s.neighbourSlot? site = some k) (hn : s.neighbours[k] = some n) :
    linkStatusService site code s = linkStatusOn k n l s := by
  unfold linkStatusService
  rw [state]
  dsimp only
  rw [slot]
  dsimp only
  rw [hn]

/-- The counts that LINK STATUS and SET NEIGHBOUR report (R135, R138). -/
theorem State.counts_eq (s : State) (site : Nat) :
    s.countAsked (fun x => x == site) = (List.finRange 8).countP (fun j =>
      s.handover.slots[j].transaction.any (fun x => x.phase == .asked && x.target == site))
    ∧ s.countTargets (fun x => x == site) = s.visitors.records.toList.countP (fun o =>
      o.any (fun r => r.queued && r.target == some site)) := by
  refine ⟨rfl, ?_⟩
  unfold State.countTargets
  simp only [any_beq_eq]

/-- A change to DOWN of a site that was not DOWN, block by block (R139). -/
theorem linkStatusService_down {s : State} {site code : Nat} {k : Fin 12} {n : Neighbour} (slots : SlotsExact s)
    (queues : ClassQueuesExact s) (state : LinkState.ofCode code = some .down) (slot : s.neighbourSlot? site = some k)
    (hn : s.neighbours[k] = some n) (was : n.link ≠ .down) :
    ∃ v : State, linkStatusService site code s = (v, fun _ => .done false none (.linkStatus k n.link
        (some ((List.finRange 8).countP (fun j => s.handover.slots[j].transaction.any (fun x => x.phase == .asked && x.target == site)),
          s.visitors.records.toList.countP (fun o => o.any (fun r => r.queued && r.target == some site))))))
      ∧ SiteCleared s v site (fun l => l) (fun l => l.map (fun e => e.afterEnd site (some s.selected.refusalCooldown)))
      ∧ v.neighbours = s.neighbours.set k (some { n with link := .down })
      ∧ v.ports = { s.ports with
          maintenance := { s.ports.maintenance with alarms := raiseIn .neighbourDown site s.ports.maintenance.alarms } } := by
  obtain ⟨m, hm, hsite⟩ := State.neighbourSlot?_eq_some slot
  rw [hn] at hm
  cases hm
  obtain ⟨hasked, htargets⟩ := s.counts_eq site
  have hframe := (s.setNeighbourSlot k (some { n with link := .down })).neighbourDown_frame site
  have hcleared := SiteCleared.neighbourDown (s := s.setNeighbourSlot k (some { n with link := .down }))
    ⟨slots.named, slots.transit⟩ ⟨queues.nodup, queues.mem_iff, queues.queued⟩ site
  refine ⟨(s.setNeighbourSlot k (some { n with link := .down })).neighbourDown site, ?_, ?_, ?_, ?_⟩
  · rw [linkStatusService_eq state slot hn, linkStatusOn, if_pos ⟨rfl, was⟩, hsite, hasked, htargets]
  · obtain ⟨hfreed, hslots, hqueues, hreleased, hwithdrawn, hothers, hvacant, hchains, hage, hfree, hclaims, hinterest, hsweep,
      ⟨hpending, hpin, hscoring, hprofiles, hprotection, hreserve, hallowance, hthreshold⟩⟩ := hcleared
    exact ⟨hfreed, hslots, hqueues, hreleased, hwithdrawn, hothers, hvacant, hchains, hage, hfree, hclaims, hinterest, hsweep,
      ⟨hpending, hpin, hscoring, hprofiles, hprotection, hreserve, hallowance, hthreshold⟩⟩
  · rw [hframe]
    rfl
  · rw [hframe]
    rfl

theorem State.ports_confirm_link (s : State) (c : Confirmation) : (s.confirm .link c).ports =
    { s.ports with link := { s.ports.link with outbound := s.outbound .link ++ [c] } } := rfl

theorem State.ports_confirm_maintenance (s : State) (c : Confirmation) : (s.confirm .maintenance c).ports =
    { s.ports with maintenance := { s.ports.maintenance with outbound := s.outbound .maintenance ++ [c] } } := rfl

/-- Settles O48: only a change to DOWN of a site that was not DOWN does more than write the slot. -/
theorem linkStatusSetsNeighbour : Obligations.LinkStatusSetsNeighbour := by
  intro s site code l pass other state
  rw [exec_linkStatus other state]
  refine ⟨fun hs hnone => ?_, fun k n slot hn => ⟨fun hs hsame => ?_, fun hdown hwas slots queues => ?_⟩⟩
  · refine request_confirm hs pass rfl ?_
    unfold linkStatusService
    rw [state]
    dsimp only
    rw [hnone]
    rfl
  · refine request_reply pass rfl ?_ (hs.settle_same ⟨rfl, rfl⟩ ⟨rfl, rfl, rfl⟩ rfl rfl rfl fun _ => rfl)
    have hnot : ¬(l = .down ∧ n.link ≠ .down) := fun h => hsame.elim (fun h' => h' h.1) h.2
    rw [linkStatusService_eq state slot hn, linkStatusOn, if_neg hnot]
    rfl
  · subst hdown
    obtain ⟨v, hserved, hcleared, hneighbours, hports⟩ := linkStatusService_down slots queues state slot hn hwas
    obtain ⟨t, hnext, hup⟩ := request_upToGrants pass rfl hserved
    have hline : v.outbound .link = [] := by
      simp only [State.outbound, hports]
      exact pass.line
    have hu := hcleared.confirm .link ⟨35, .done false none (.linkStatus k n.link
      (some ((List.finRange 8).countP (fun j => s.handover.slots[j].transaction.any (fun x => x.phase == .asked && x.target == site)),
        s.visitors.records.toList.countP (fun o => o.any (fun r => r.queued && r.target == some site)))))⟩
    have hfree := hu.siteFree_settled hup slots queues
    refine ⟨t, hnext, ?_, ?_, hup.line hline, fun j x r hx hp ht hr => hu.released_settled hup slots queues hx hp ht hr,
      fun j x hx ho => hu.slots_settled hup hx ho, hfree.asked, hfree.record, ⟨_, hup, ?_, hu, ?_, ?_, ?_⟩, ?_, ?_,
      hu.config.trans hup.toEndOfStepFrame.config⟩
    · rw [hup.neighbours, State.confirm_neighbours, hneighbours]
    · rw [hup.alarms, State.ports_confirm_link, hports]
    · rw [State.confirm_neighbours, hneighbours]
    · rw [State.ports_confirm_link, hports]
    · rw [hup.line hline, State.ports_confirm_link, hports, hline]
      rfl
    · rw [State.ports_confirm_link, hports]
    · exact hup.age.trans hu.age
    · exact hup.free.trans hu.free

/-! ## SET NEIGHBOUR -/

/-- A record without its entries for a site (R137). -/
def Record.without (r : Record) (site : Nat) : Record := { r with neighbours := r.neighbours.filter (fun e => e.site != site) }

/-- The entries for a site removed and the records queued for it withdrawn, as its removal begins (R137). -/
def State.unlisted (s : State) (site : Nat) : State :=
  (s.mapRecords (fun r => r.without site)).withdrawTargets (fun t => t == site)

theorem State.removeSite_eq (s : State) (site : Nat) : s.removeSite site = (s.unlisted site).failAsked (fun t => t == site) false := rfl

theorem State.record?_unlisted (s : State) (site : Nat) (i : Index) : (s.unlisted site).record? i = (s.record? i).map (fun r =>
    if (r.queued && r.target == some site) = true then (r.without site).unqueued else r.without site) := by
  unfold State.unlisted
  rw [State.record?_withdrawTargets, State.record?_mapRecords, Option.map_map]
  refine Option.map_congr fun r _ => ?_
  rw [Function.comp_apply, any_beq_eq]
  rfl

theorem State.unlisted_frame (s : State) (site : Nat) : s.unlisted site = { s with
    visitors := { s.visitors with records := (s.unlisted site).visitors.records }
    handover := ⟨(s.unlisted site).handover.queues, s.handover.slots⟩ } := rfl

theorem State.queues_unlisted (s : State) (site : Nat) (c : Fin 4) : (s.unlisted site).handover.queues[c] =
    s.handover.queues[c].filter (fun i => !(s.record? i).any (fun r => r.queued && r.target == some site)) := by
  unfold State.unlisted
  rw [HandoverUnit.queues_withdrawTargets]
  refine List.filter_congr fun i _ => ?_
  rw [State.record?_mapRecords, Option.any_map]
  refine congrArg (fun p => !Option.any p (s.record? i)) (funext fun r => ?_)
  rw [any_beq_eq]
  rfl

theorem SlotsExact.unlisted {s : State} (h : SlotsExact s) (site : Nat) : SlotsExact (s.unlisted site) :=
  h.same (fun i => by
    rw [State.record?_unlisted, Option.map_map]
    refine Option.map_congr fun r _ => ?_
    rw [Function.comp_apply]
    split <;> rfl) fun _ => rfl

theorem State.removeSite_frame (s : State) (site : Nat) : s.removeSite site = { s with
    visitors := { s.visitors with records := (s.removeSite site).visitors.records }
    handover := (s.removeSite site).handover } := by
  have hfail := (s.unlisted site).failAsked_frame (fun t => t == site) false
  have hvisitors := (s.unlisted site).failAsked_visitors (fun t => t == site) false
  rw [← State.removeSite_eq] at hfail hvisitors
  generalize s.removeSite site = v at *
  rw [State.unlisted_frame] at hfail hvisitors
  rw [← hvisitors]
  exact hfail

theorem NeighbourEntry.afterEnd_none (e : NeighbourEntry) (target : Nat) :
    e.afterEnd target none = { e with better := 0, late := false } := by
  unfold NeighbourEntry.afterEnd
  rw [Option.getD_none, ite_self]

theorem State.slots_removeSite (s : State) (site : Nat) (j : Fin 8) : (s.removeSite site).handover.slots[j] =
    if s.asked (fun t => t == site) j = true then ⟨s.handover.slots[j].generation, none⟩ else s.handover.slots[j] := by
  have hslots : (s.unlisted site).handover.slots = s.handover.slots := rfl
  have hasked : (s.unlisted site).asked (fun t => t == site) j = s.asked (fun t => t == site) j := rfl
  rw [State.removeSite_eq, State.slots_failAsked, hasked, hslots]

/-- A site that leaves the table is cleared, and its entries are gone (R112, R137). -/
theorem SiteCleared.removeSite {s : State} (slots : SlotsExact s) (queues : ClassQueuesExact s) (site : Nat) :
    SiteCleared s (s.removeSite site) site (fun l => l.filter (fun x => x.site != site))
      (fun l => (l.filter (fun x => x.site != site)).map (fun x => { x with better := 0, late := false })) := by
  have hframe := s.removeSite_frame site
  have hslot := s.slots_removeSite site
  have hrecord : ∀ i : Index, (s.removeSite site).record? i =
      ((s.unlisted site).record? i).map ((s.unlisted site).releasedBy (fun t => t == site) none) := fun i => by
    rw [State.removeSite_eq, State.record?_failAsked (slots.unlisted site)]
    rfl
  have hstays : ∀ (i : Index) (r : Record), s.record? i = some r → (∀ (j : Fin 8) (x : Transaction), r.slot = some j →
      s.handover.slots[j].transaction = some x → x.phase ≠ .asked ∨ x.target ≠ site) →
      (s.removeSite site).record? i =
        some (if (r.queued && r.target == some site) = true then (r.without site).unqueued else r.without site) :=
    fun i r hr hother => by
      rw [hrecord, State.record?_unlisted, hr, Option.map_some, Option.map_some, State.releasedBy_of_not_asked]
      intro j hj
      have hslot : r.slot = some j := by
        rw [← hj]
        split <;> rfl
      rw [← Bool.not_eq_true, State.asked_eq_true]
      rintro ⟨x, hx, hphase, htarget⟩
      rcases hother j x hslot hx with h | h
      · exact h hphase
      · exact h (beq_iff_eq.mp htarget)
  exact
    { freed := fun j x hx phase target => by
        rw [hslot, if_pos ((State.asked_eq_true (test := fun t => t == site)).mpr ⟨x, hx, phase, beq_iff_eq.mpr target⟩)]
      slots := fun j hj => by
        rw [hslot, if_neg]
        rw [State.asked_eq_true]
        rintro ⟨x, hx, hphase, htarget⟩
        rcases hj x hx with h | h
        · exact h hphase
        · exact h (beq_iff_eq.mp htarget)
      queues := fun c => by
        rw [State.removeSite_eq, State.queues_failAsked, State.queues_unlisted]
      released := fun j x r hx phase target hr => by
        obtain ⟨q, hq, hqslot, -⟩ := slots.record_of hx
        rw [hr] at hq
        cases hq
        have hmark : ¬((r.queued && r.target == some site) = true) := by
          rw [Bool.and_eq_true]
          rintro ⟨hqueued, -⟩
          rw [slots.slot_of_queued queues hr hqueued] at hqslot
          cases hqslot
        rw [hrecord, State.record?_unlisted, hr, Option.map_some, if_neg hmark, Option.map_some,
          State.releasedBy_of_asked (s := s.unlisted site) (test := fun t => t == site) (r := r.without site)
            hqslot hx phase (beq_iff_eq.mpr target) none]
        simp only [Record.afterFailure, Record.without, NeighbourEntry.afterFailure_eq, NeighbourEntry.afterEnd_none]
      withdrawn := fun i r hr hqueued htarget => by
        rw [hstays i r hr fun j x hj => by rw [slots.slot_of_queued queues hr hqueued] at hj; cases hj]
        rw [hqueued, htarget, beq_self_eq_true]
        rfl
      others := fun i r hr hnot hother => by
        have hmark : ¬((r.queued && r.target == some site) = true) := by
          rw [Bool.and_eq_true, beq_iff_eq]
          rintro ⟨hqueued, htarget⟩
          rcases hnot with h | h
          · rw [hqueued] at h; cases h
          · exact h htarget
        rw [hstays i r hr hother, if_neg hmark]
        rfl
      vacant := fun i hi => by rw [hrecord, State.record?_unlisted, hi]; rfl
      chains := by rw [hframe]
      age := by rw [hframe]
      free := by rw [hframe]
      claims := by rw [hframe]
      interest := by rw [hframe]
      sweep := by rw [hframe]
      config := by rw [hframe]; exact ⟨rfl, rfl, rfl, rfl, rfl, rfl, rfl, rfl⟩ }

theorem SiteCleared.setNeighbourSlot {s u : State} {site : Nat} {kept ended : List NeighbourEntry → List NeighbourEntry}
    (h : SiteCleared s u site kept ended) (k : Fin 12) (n : Option Neighbour) :
    SiteCleared s (u.setNeighbourSlot k n) site kept ended :=
  ⟨h.freed, h.slots, h.queues, h.released, h.withdrawn, h.others, h.vacant, h.chains, h.age, h.free, h.claims, h.interest, h.sweep,
    ⟨h.config.pending, h.config.resetPinLow, h.config.scoring, h.config.profiles, h.config.protection, h.config.reserve,
      h.config.allowance, h.config.threshold⟩⟩

/-- What the end of the step leaves of a record behind a site that left the table. -/
theorem SiteCleared.entries_settled {s u t : State} {site : Nat} (h : SiteCleared s u site (fun l => l.filter (fun x => x.site != site))
      (fun l => (l.filter (fun x => x.site != site)).map (fun x => { x with better := 0, late := false })))
    (hup : UpToGrants u t) (slots : SlotsExact s) (queues : ClassQueuesExact s) {i : Index} {r : Record} (hr : s.record? i = some r) :
    ∃ q, t.record? i = some q
      ∧ q.neighbours.map (fun x => { x with better := 0, late := false })
          = (r.neighbours.filter (fun x => x.site != site)).map (fun x => { x with better := 0, late := false })
      ∧ ((∀ j : Fin 8, r.slot = some j → s.phase? j ≠ some .asked) → q.neighbours = r.neighbours.filter (fun x => x.site != site))
      ∧ (q.queued = true → q.target ≠ some site) := by
  have hfree := h.siteFree_settled hup slots queues
  have hkept : ∀ w : Record, u.record? i = some w → ∃ q, t.record? i = some q ∧ q.neighbours = w.neighbours
      ∧ (q.queued = true → q.target ≠ some site) := fun w hw => by
    obtain ⟨q, hq, hwq⟩ := hup.record i w hw
    exact ⟨q, hq, by rw [hwq], hfree.record i q hq⟩
  by_cases hasked : ∃ (j : Fin 8) (x : Transaction), r.slot = some j ∧ s.handover.slots[j].transaction = some x ∧ x.phase = .asked
      ∧ x.target = site
  · obtain ⟨j, x, hslot, hx, hphase, htarget⟩ := hasked
    have hname := (slots.named j i).mpr (by rw [hr, Option.any_some, hslot, beq_self_eq_true])
    rw [hx] at hname
    cases hname
    obtain ⟨q, hq, hentries, hqueued⟩ := hkept _ (h.released j x r hx hphase htarget hr)
    refine ⟨q, hq, ?_, fun hnone => ?_, hqueued⟩
    · rw [hentries, List.map_map]
      rfl
    · exact absurd (by rw [State.phase?, hx, Option.map_some, hphase]) (hnone j hslot)
  · have hother : ∀ (j : Fin 8) (x : Transaction), r.slot = some j → s.handover.slots[j].transaction = some x →
        x.phase ≠ .asked ∨ x.target ≠ site := fun j x hslot hx => by
      by_contra hn
      push Not at hn
      exact hasked ⟨j, x, hslot, hx, hn.1, hn.2⟩
    have hstays : ∃ w : Record, u.record? i = some w ∧ w.neighbours = r.neighbours.filter (fun x => x.site != site) := by
      by_cases hqueued : r.queued = true ∧ r.target = some site
      · exact ⟨_, h.withdrawn i r hr hqueued.1 hqueued.2, rfl⟩
      · refine ⟨_, h.others i r hr ?_ hother, rfl⟩
        by_contra hn
        push Not at hn
        exact hqueued ⟨by simpa using hn.1, hn.2⟩
    obtain ⟨w, hw, hwentries⟩ := hstays
    obtain ⟨q, hq, hentries, hqueued⟩ := hkept w hw
    exact ⟨q, hq, by rw [hentries, hwentries], fun _ => hentries.trans hwentries, hqueued⟩

theorem exec_setNeighbour {s : State} {k : Fin 12} {site : Nat} (bias : Int)
    (range : site = 0 ∨ s.NamesOtherSite site ∧ ∀ (j : Fin 12) (m : Neighbour), s.neighbours[j] = some m → m.site = site → j = k)
    (p : Port) : exec (.setNeighbour p k.val site bias) s =
      request .setNeighbour p true false true (setNeighbourService k.val site bias) s := by
  have hrange : s.neighbourInRange k.val site = true := by
    unfold State.neighbourInRange
    rw [decide_eq_true (by omega : k.val ≤ 11), Bool.true_and]
    rcases range with rfl | ⟨⟨low, high, hown⟩, hslot⟩
    · rfl
    · rw [decide_eq_true (by simp only [Config.maxSite]; omega), Bool.true_and, Bool.or_eq_true]
      refine Or.inr ?_
      rw [Bool.and_eq_true, bne_iff_ne]
      refine ⟨hown, ?_⟩
      cases hfound : s.neighbourSlot? site with
      | none => rfl
      | some j =>
        obtain ⟨m, hm, hmsite⟩ := State.neighbourSlot?_eq_some hfound
        exact beq_iff_eq.mpr (congrArg Fin.val (hslot j m hm hmsite))
  show request .setNeighbour p true false (s.neighbourInRange k.val site) (setNeighbourService k.val site bias) s = _
  rw [hrange]

theorem slotOfNumber_val {n : Nat} (k : Fin n) : slotOfNumber n k.val = some k := dif_pos k.isLt

theorem decide_ne_eq_bne (a b : Int) : decide (a ≠ b) = (a != b) := by
  by_cases h : a = b
  · simp [h]
  · simp [h]

/-- A slot whose site leaves the table, block by block (R135, R137). -/
theorem setNeighbourService_replaced {s : State} {k : Fin 12} {site : Nat} {bias b : Int} (slots : SlotsExact s)
    (queues : ClassQueuesExact s) (hb : b = clampBias bias) {n : Neighbour} (hn : s.neighbours[k] = some n) (other : n.site ≠ site) :
    ∃ v : State, setNeighbourService k.val site bias s = (v, fun _ => .done (site != 0 && b != bias) none
        (.neighbourStored (if site = 0 then none else some ⟨site, b, .down⟩) (some n.site)
          (some (s.countEntries n.site, s.countTargets (fun t => t == n.site), s.countAsked (fun t => t == n.site)))))
      ∧ SiteCleared s v n.site (fun l => l.filter (fun x => x.site != n.site))
          (fun l => (l.filter (fun x => x.site != n.site)).map (fun x => { x with better := 0, late := false }))
      ∧ v.neighbours = s.neighbours.set k (if site = 0 then none else some ⟨site, b, .down⟩) ∧ v.ports = s.ports := by
  have hafter : neighbourAfter s.neighbours[k] site bias = if site = 0 then none else some ⟨site, b, .down⟩ := by
    rw [hn, hb]
    unfold neighbourAfter
    dsimp only
    rw [if_neg other]
  have hremoved : removedSite s.neighbours[k] site = some n.site := by
    rw [hn]
    exact if_neg other
  have hframe := s.removeSite_frame n.site
  refine ⟨(s.removeSite n.site).setNeighbourSlot k (if site = 0 then none else some ⟨site, b, .down⟩), ?_,
    (SiteCleared.removeSite slots queues n.site).setNeighbourSlot k _, ?_, ?_⟩
  · unfold setNeighbourService
    rw [slotOfNumber_val]
    dsimp only
    rw [hremoved, hafter, ← hb, decide_ne_eq_bne]
  · have hset : ∀ (u : State) (o : Option Neighbour), (u.setNeighbourSlot k o).neighbours = u.neighbours.set k o := fun _ _ => rfl
    rw [hset, State.removeSite_neighbours]
  · have hset : ∀ (u : State) (o : Option Neighbour), (u.setNeighbourSlot k o).ports = u.ports := fun _ _ => rfl
    rw [hset, hframe]

theorem setNeighbourService_kept {s : State} {k : Fin 12} {site : Nat} {bias b : Int} {stored : Option Neighbour}
    (hb : b = clampBias bias)
    (hcase : s.neighbours[k] = none ∧ stored = (if site = 0 then none else some ⟨site, b, .down⟩)
      ∨ ∃ n, s.neighbours[k] = some n ∧ n.site = site ∧ site ≠ 0 ∧ stored = some { n with bias := b }) :
    setNeighbourService k.val site bias s = (s.setNeighbourSlot k stored, fun _ =>
      .done (site != 0 && b != bias) none (.neighbourStored stored (s.neighbours[k].map Neighbour.site) none)) := by
  have hstored : removedSite s.neighbours[k] site = none ∧ neighbourAfter s.neighbours[k] site bias = stored := by
    rcases hcase with ⟨hnone, rfl⟩ | ⟨n, hn, rfl, hzero, rfl⟩
    · rw [hnone, hb]
      exact ⟨rfl, rfl⟩
    · rw [hn, hb]
      refine ⟨if_pos rfl, ?_⟩
      unfold neighbourAfter
      rw [if_neg hzero]
      exact if_pos rfl
  unfold setNeighbourService
  rw [slotOfNumber_val]
  dsimp only
  rw [hstored.1, hstored.2, ← hb, decide_ne_eq_bne]

/-- Settles O49: the slot is written alone, or behind the removal of the site that it held. -/
theorem setNeighbourWritesSlot : Obligations.SetNeighbourWritesSlot := by
  intro s k site bias b pass range hb
  rw [exec_setNeighbour bias range]
  refine ⟨fun stored hs hcase => ?_, fun n hn hother slots queues => ?_⟩
  · exact request_reply pass rfl (setNeighbourService_kept hb hcase)
      (hs.settle_same ⟨rfl, rfl⟩ ⟨rfl, rfl, rfl⟩ rfl rfl rfl fun _ => rfl)
  · obtain ⟨hasked, htargets⟩ := s.counts_eq n.site
    obtain ⟨v, hserved, hcleared, hneighbours, hports⟩ := setNeighbourService_replaced slots queues hb hn hother
    obtain ⟨t, hnext, hup⟩ := request_upToGrants pass rfl hserved
    have hline : v.outbound .maintenance = [] := by
      simp only [State.outbound, hports]
      exact pass.line
    have hu := hcleared.confirm .maintenance ⟨51, .done (site != 0 && b != bias) none (.neighbourStored
      (if site = 0 then none else some ⟨site, b, .down⟩) (some n.site)
      (some (s.countEntries n.site, s.countTargets (fun t => t == n.site), s.countAsked (fun t => t == n.site))))⟩
    have hfree := hu.siteFree_settled hup slots queues
    refine ⟨t, _, _, _, hnext, ?_, hup.line hline, rfl, htargets, hasked, fun i r hr => hu.entries_settled hup slots queues hr,
      fun j x hx ho => hu.slots_settled hup hx ho, hfree.asked, ⟨_, hup, ?_, hu, ?_, ?_, ?_⟩, hup.age.trans hu.age,
      hup.free.trans hu.free, hu.config.trans hup.toEndOfStepFrame.config⟩
    · rw [hup.neighbours, State.confirm_neighbours, hneighbours]
    · rw [State.confirm_neighbours, hneighbours]
    · rw [hup.line hline, State.ports_confirm_maintenance, hports, hline]
      rfl
    · rw [State.ports_confirm_maintenance, hports]
    · rw [State.ports_confirm_maintenance, hports]

end Sys2Proof.Machine
end

section
/-! PROOF. The room arbiter (07 R145, R146), ANSWER (06 R96 to R99) and the transaction timers (06 R100, R104, R107). -/

namespace Sys2Proof.Machine

/-! ## The room arbiter -/

theorem MapEntry.owesJoin_iff (e : MapEntry) :
    e.owesJoin = true ↔ e.phase = .joined ∧ e.announced = false ∧ e.leaveOwed = false := by
  unfold MapEntry.owesJoin
  cases e.phase <;> simp

/-- The next JOIN is that of the lowest-numbered place that owes one (R127). -/
theorem InterestMap.nextJoin?_eq_some {m : InterestMap} {k : Place} {e : MapEntry} (hk : m.places[k] = some e) (owes : e.owesJoin = true)
    (first : ∀ (j : Place) (d : MapEntry), j < k → m.places[j] = some d → d.owesJoin = false) : m.nextJoin? = some (k, e.talkgroup) := by
  have hfirst : firstPlace? m.places (fun p => p.any MapEntry.owesJoin) = some k := by
    refine firstPlace?_eq_some.mpr ⟨by rw [hk, Option.any_some, owes], fun j hj => ?_⟩
    cases hd : m.places[j] with
    | none => rfl
    | some d => exact first j d hj hd
  rw [InterestMap.nextJoin?, hfirst, Option.bind_some, hk, Option.map_some]

/-- Settles O43: the producers are asked in the order of their rank. -/
theorem arbiterServesHighestRank : Obligations.ArbiterServesHighestRank := by
  intro s
  refine ⟨fun hnone => ?_, fun opened room => ?_, fun t ht => ?_, ⟨_, s.grantRun_runArbiter, fun u hu => hu.eq_runArbiter⟩,
    ⟨_, s.checkSweep.grantRun_runArbiter, rfl⟩⟩
  · have hroom : s.linkHasRoom = false := by
      rw [State.linkHasRoom, Bool.and_eq_false_iff]
      exact hnone.imp id fun h => decide_eq_false (Nat.not_lt.mpr h)
    rw [State.grantPlace, hroom]
    rfl
  · have hroom : s.linkHasRoom = true := by
      rw [State.linkHasRoom, opened]
      exact decide_eq_true room
    have hgrant : s.grantPlace = if s.ports.link.refreshOwed then some s.postRefresh else match s.claims with
      | e :: _ => some (s.postClaim e)
      | [] => match s.interest.owedLeaves with
        | tg :: _ => some (s.postLeave tg)
        | [] => match s.interest.nextJoin? with
          | some (k, tg) => some (s.postJoin k tg)
          | none => match s.nextGrant? with
            | some (k, i, r) => some (s.grant k i r)
            | none => none := by
      rw [State.grantPlace, hroom]
      rfl
    refine ⟨fun owed => ?_, fun owed => ⟨fun e rest r hclaims hr => ?_, fun hclaims => ⟨fun tg rest hleaves => ?_,
      fun hleaves k e hk hphase hannounced hleave first => ?_⟩⟩⟩
    · rw [hgrant, if_pos owed]
      rfl
    · have hclaim : s.grantPlace = some (s.postClaim e) := by rw [hgrant, owed, hclaims]; rfl
      rw [hclaim]
      unfold State.postClaim
      rw [hr, hclaims]
      rfl
    · have hleave : s.grantPlace = some (s.postLeave tg) := by rw [hgrant, owed, hclaims, hleaves]; rfl
      rw [hleave]
      unfold State.postLeave InterestMap.leavePosted
      rw [hleaves]
      rfl
    · have hnext : s.interest.nextJoin? = some (k, e.talkgroup) :=
        InterestMap.nextJoin?_eq_some hk (e.owesJoin_iff.mpr ⟨hphase, hannounced, hleave⟩) fun j d hj hd => by
          rw [← Bool.not_eq_true, MapEntry.owesJoin_iff]
          rintro ⟨hd1, hd2, hd3⟩
          rcases first j d hj hd with h | h | h
          · exact h hd1
          · rw [hd2] at h; cases h
          · rw [hd3] at h; cases h
      have hjoin : s.grantPlace = some (s.postJoin k e.talkgroup) := by rw [hgrant, owed, hclaims, hleaves, hnext]; rfl
      rw [hjoin]
      unfold State.postJoin InterestMap.markAnnounced
      rw [hk]
      rfl
  · obtain ⟨n, hn, -⟩ := State.grantPlace_queue ht
    exact ⟨n, hn⟩

/-! ## ANSWER -/

theorem exec_answer {f : AnswerFields} {k : Fin 8} (slot : f.slot = k.val) (generation : f.generation ≤ 15) (unit : NamesRadio f.unit)
    (low : 1 ≤ f.site) (high : f.site ≤ 1023) (answer : f.answer ≤ 1) (p : Port) (s : State) :
    exec (.answer p f) s = request .answer p true false true (answerService f) s := by
  have hrange : AnswerFields.inRange f = true := by
    rw [AnswerFields.inRange, decide_eq_true (by omega), unitInRange_iff.mpr unit, siteInRange_iff.mpr ⟨low, high⟩, decide_eq_true answer,
      fitsSequence, decide_eq_true generation]
    rfl
  show request .answer p true false (AnswerFields.inRange f) (answerService f) s = _
  rw [hrange]

theorem answerService_eq {f : AnswerFields} {k : Fin 8} (slot : f.slot = k.val) (s : State) : answerService f s =
    if s.answerMatches k f then
      if f.answer = 0 then ((s.moveAttempt k).1, fun _ => .done false none (.answered (s.moveAttempt k).2))
      else (s.failTransaction k true, fun _ => .done false none (.answered .ended))
    else s.refuse .unknown := by
  unfold answerService
  rw [slot, slotOfNumber_val]

theorem State.answerMatches_iff {s : State} {k : Fin 8} {f : AnswerFields} : s.answerMatches k f = true ↔
    s.handover.slots[k].generation = f.generation ∧ ∃ x, s.handover.slots[k].transaction = some x ∧ x.phase = .asked ∧ x.target = f.site
      ∧ ∃ r, s.record? x.record = some r ∧ r.unit = f.unit := by
  unfold State.answerMatches
  rw [Bool.and_eq_true, beq_iff_eq, Option.any_eq_true]
  refine and_congr_right fun _ => exists_congr fun x => and_congr_right fun _ => ?_
  rw [Bool.and_eq_true, Bool.and_eq_true, beq_iff_eq, beq_iff_eq, and_assoc, Option.any_eq_true]
  simp only [beq_iff_eq]

/-- Settles O44: the answer is matched first; a REFUSE ends the transaction without a CANCEL. -/
theorem answerRefuseEndsTransaction : Obligations.AnswerRefuseEndsTransaction := by
  intro s f k pass slot generation unit low high answer
  rw [exec_answer slot generation unit low high answer]
  refine ⟨fun x r hx hgeneration phase target hr hunit refuse => ?_, fun hs hno => ?_⟩
  · refine request_upToGrants pass rfl ?_
    have hmatch : s.answerMatches k f = true :=
      State.answerMatches_iff.mpr ⟨hgeneration, x, hx, phase, target, r, hr, hunit⟩
    rw [answerService_eq slot, if_pos hmatch, if_neg (by omega), State.failTransaction_eq hx]
    rfl
  · refine request_confirm hs pass rfl ?_
    have hmatch : ¬(s.answerMatches k f = true) := by
      rw [State.answerMatches_iff]
      rintro ⟨hgeneration, x, hx, phase, target, r, hr, hunit⟩
      rcases hno with h | h | ⟨y, hy, h⟩
      · exact h hgeneration
      · exact h (by rw [State.phase?, hx, Option.map_some, phase])
      · rw [hx] at hy
        cases hy
        rcases h with h | h
        · exact h target
        · exact h r hr hunit
    rw [answerService_eq slot, if_neg hmatch]
    rfl

/-- The four outcomes of a MOVE attempt from ASKED, with what each reports (R99). -/
theorem State.moveAttempt_of_asked {s : State} {k : Fin 8} {x : Transaction} {r : Record} {c : Fin 4}
    (hx : s.handover.slots[k].transaction = some x) (phase : x.phase = .asked) (hr : s.record? x.record = some r)
    (serving : r.serving = some c) :
    (s.ports.channels[c].state = .closed → s.moveAttempt k =
      ((s.offered (.cancel r.unit s.protection.site x.target k s.handover.slots[k].generation)).failed k x
        (some s.selected.refusalCooldown), .abandoned s.fateOfOffer))
    ∧ (s.ports.channels[c].state ≠ .closed → r.inCall = true → s.moveAttempt k =
      (s.withSlot k ⟨s.handover.slots[k].generation, some { x with phase := .held .call, timer := ⟨x.orderHold, 0⟩ }⟩, .held .call))
    ∧ (s.ports.channels[c].state ≠ .closed → r.inCall = false → 32 ≤ s.ports.channels[c].queue.length → s.moveAttempt k =
      (s.withSlot k ⟨s.handover.slots[k].generation, some { x with phase := .held .room, timer := ⟨x.orderHold, 0⟩ }⟩, .held .room))
    ∧ (s.ports.channels[c].state ≠ .closed → r.inCall = false → s.ports.channels[c].queue.length < 32 → s.moveAttempt k =
      ((s.withSlot k ⟨s.handover.slots[k].generation, some { x with phase := .ordered, timer := ⟨x.claimTimeout, 0⟩ }⟩).modifyChannel c
        (fun p => { p with queue := p.queue ++ [.move r.unit x.target k s.handover.slots[k].generation] }), .ordered)) := by
  obtain ⟨hclosed, hcall, hfull, hroom⟩ := State.moveAttempt_cases hx hr serving
  have hhold : ∀ reason, s.hold k x reason =
      s.withSlot k ⟨s.handover.slots[k].generation, some { x with phase := .held reason, timer := ⟨x.orderHold, 0⟩ }⟩ := fun reason => by
    unfold State.hold
    rw [if_pos phase]
    rfl
  refine ⟨fun closed => ?_, fun opened incall => ?_, fun opened incall full => ?_, fun opened incall room => ?_⟩
  · rw [hclosed closed, State.abandon, State.failWithCancel_eq hx hr]
    rfl
  · rw [hcall opened incall, hhold]
  · rw [hfull opened incall full, hhold]
  · rw [hroom opened incall room]
    rfl

/-- Settles O45: the MOVE attempt of R99, by the serving port's state, the call mark and the room on the port. -/
theorem answerAcceptMakesMoveAttempt : Obligations.AnswerAcceptMakesMoveAttempt := by
  intro s f k x r c pass slot generation unit low high hx hgeneration phase target hr hunit serving accept
  rw [exec_answer slot generation unit low high (by omega)]
  have hmatch : s.answerMatches k f = true := State.answerMatches_iff.mpr ⟨hgeneration, x, hx, phase, target, r, hr, hunit⟩
  have hserved : answerService f s = ((s.moveAttempt k).1, fun _ => .done false none (.answered (s.moveAttempt k).2)) := by
    rw [answerService_eq slot, if_pos hmatch, if_pos accept]
  obtain ⟨t, hnext, hup⟩ := request_upToGrants pass rfl hserved
  obtain ⟨hclosed, hcall, hfull, hroom⟩ := State.moveAttempt_of_asked hx phase hr serving
  rw [← target]
  rw [hunit, hgeneration] at hclosed hroom
  rw [hgeneration] at hcall hfull
  refine ⟨t, hnext, fun closed => ?_, fun opened incall => ?_, fun opened incall full => ?_, fun opened incall room => ?_⟩
  · rw [hclosed closed] at hup
    exact hup
  · rw [hcall opened incall] at hup
    exact hup
  · rw [hfull opened incall full] at hup
    exact hup
  · rw [hroom opened incall room] at hup
    exact hup

/-! ## The transaction timers -/

/-- An expiry in its phase ends the transaction by failure with a CANCEL (R100, R104, R107). -/
theorem exec_expiry {s : State} {k : Fin 8} {c : Instr} {phases : List Phase} (pin : s.resetPinLow = false)
    (h : c = .answerTimerExpiry k ∧ phases = [.asked] ∨ c = .holdTimerExpiry k ∧ phases = [.held .call, .held .room]
      ∨ c = .claimTimerExpiry k ∧ phases = [.ordered]) :
    exec c s = .next (if ∃ phase ∈ phases, s.phase? k = some phase then (s.failWithCancel k true).1 else s).settle := by
  rcases h with ⟨rfl, rfl⟩ | ⟨rfl, rfl⟩ | ⟨rfl, rfl⟩
  · show event (fun s => s.answerExpiry k) s = _
    rw [event_eq pin, State.answerExpiry]
    simp only [List.mem_singleton, exists_eq_left]
  · show event (fun s => s.holdExpiry k) s = _
    rw [event_eq pin, State.holdExpiry]
    simp only [List.mem_cons, List.not_mem_nil, or_false, exists_eq_or_imp, exists_eq_left]
  · show event (fun s => s.claimExpiry k) s = _
    rw [event_eq pin, State.claimExpiry]
    simp only [List.mem_singleton, exists_eq_left]

/-- Settles O46: an expiry tests the phase of its slot. -/
theorem timerExpiryFailsTransaction : Obligations.TimerExpiryFailsTransaction := by
  intro s k c phases pin hcase
  rw [exec_expiry pin hcase]
  refine ⟨fun x r hx hr phase => ⟨_, rfl, ?_⟩, fun hs hno => ?_⟩
  · rw [if_pos ⟨x.phase, phase, by rw [State.phase?, hx, Option.map_some]⟩, State.failWithCancel_eq hx hr]
    exact State.kept_settle _
  · have hnone : ¬∃ phase ∈ phases, s.phase? k = some phase := by
      rintro ⟨phase, hmem, hphase⟩
      obtain ⟨x, hx, rfl⟩ := Option.map_eq_some_iff.mp hphase
      exact hno x hx hmem
    rw [if_neg hnone, hs.settle_eq]

end Sys2Proof.Machine
end

section
/-! PROOF. The sweep (04 R68 to R75) and the visits that shift, age and poll (R78 to R81, R87). -/

namespace Sys2Proof.Machine

/-! ## The sweep timer -/

/-- A sweep started, as one update of the sweep unit and the chatter counts (R71). -/
theorem State.startSweep_eq (s : State) : s.startSweep = { s with
    sweep := { s.sweep with
      parity := s.sweep.parity.flip
      inFlight := !s.visitors.age.isEmpty
      unvisited := s.visitors.age.length
      snapshot := if s.visitors.age = [] then none else some s.selected.snapshot }
    ports := { s.ports with channels := s.ports.channels.map (fun p => { p with chatter := 0 }) } } := by
  unfold State.startSweep
  dsimp only
  cases hage : s.visitors.age with
  | nil => rfl
  | cons i rest => rfl

/-- A change of the sweep unit and of chatter counts gives the arbiter nothing and no line a reason to change. -/
theorem Settled.withSweep {s : State} (hs : Settled s) (sweep : SweepUnit) (alive : ¬(sweep.inFlight = true ∧ sweep.unvisited = 0)) :
    Settled { s with sweep := sweep } where
  sweep := alive
  arbiter := hs.grantPlace_same ⟨rfl, rfl, rfl⟩ rfl rfl rfl fun _ => rfl
  lines := congrArg (fun u : State => { u with sweep := sweep }) hs.lines

theorem Settled.chatterReset {s : State} (hs : Settled s) :
    Settled { s with ports := { s.ports with channels := s.ports.channels.map (fun p => { p with chatter := 0 }) } } := by
  obtain ⟨hm, hl, hc⟩ := State.refreshLines_eq_iff.mp hs.lines
  refine hs.of_same ⟨rfl, rfl⟩ ⟨rfl, rfl, rfl⟩ rfl rfl rfl (fun _ => rfl) (State.refreshLines_eq_iff.mpr ⟨hm, hl, fun d => ?_⟩)
  have hport : (s.ports.channels.map (fun p : ChannelPort => { p with chatter := 0 }))[d] = { s.ports.channels[d] with chatter := 0 } :=
    Vector.getElem_map ..
  show ((s.ports.channels.map (fun p : ChannelPort => { p with chatter := 0 }))[d]).attention =
    !((s.ports.channels.map (fun p : ChannelPort => { p with chatter := 0 }))[d]).queue.isEmpty
  rw [hport]
  exact hc d

/-- Settles O36: the expiry reloads the timer, and then marks or starts. -/
theorem sweepTimerExpiryStartsOrMarks : Obligations.SweepTimerExpiryStartsOrMarks := by
  intro s hs pin
  refine ⟨fun flight => ?_, fun rest => ?_⟩
  · have hexpiry : s.sweepExpiry = { s with sweep := { s.sweep with timer := ⟨s.selected.sweepPeriod, 0⟩, due := true } } := by
      unfold State.sweepExpiry
      dsimp only
      rw [if_pos flight]
      rfl
    show event State.sweepExpiry s = _
    rw [event_eq pin, hexpiry]
    exact congrArg Host.Outcome.next
      (hs.withSweep { s.sweep with timer := ⟨s.selected.sweepPeriod, 0⟩, due := true } hs.sweep).settle_eq
  · have hexpiry : s.sweepExpiry = ({ s with sweep := { s.sweep with timer := ⟨s.selected.sweepPeriod, 0⟩ } } : State).startSweep := by
      unfold State.sweepExpiry
      dsimp only
      rw [rest]
      rfl
    have halive : ¬((!s.visitors.age.isEmpty) = true ∧ s.visitors.age.length = 0) := by
      rintro ⟨hsome, hzero⟩
      rw [List.eq_nil_of_length_eq_zero hzero] at hsome
      cases hsome
    show event State.sweepExpiry s = _
    rw [event_eq pin, hexpiry, State.startSweep_eq]
    exact congrArg Host.Outcome.next (hs.chatterReset.withSweep
      { timer := ⟨s.selected.sweepPeriod, 0⟩, parity := s.sweep.parity.flip, inFlight := !s.visitors.age.isEmpty
        unvisited := s.visitors.age.length, due := s.sweep.due
        snapshot := if s.visitors.age = [] then none else some s.selected.snapshot } halive).settle_eq

/-! ## The record a visit takes -/

theorem State.nextVisit?_of_split {s : State} {before after : List Index} {i : Index} {r : Record}
    (age : s.visitors.age = before ++ i :: after) (visited : ∀ j ∈ before, ∀ q : Record, s.record? j = some q → q.stamp = s.sweep.parity)
    (hr : s.record? i = some r) (due : r.stamp ≠ s.sweep.parity) : s.nextVisit? = some (i, r) := by
  have hbefore : before.findSome? (fun i =>
      (s.record? i).bind (fun r => if r.stamp ≠ s.sweep.parity then some (i, r) else none)) = none := by
    rw [List.findSome?_eq_none_iff]
    intro j hj
    cases hq : s.record? j with
    | none => rfl
    | some q => rw [Option.bind_some, if_neg (not_not.mpr (visited j hj q hq))]
  unfold State.nextVisit?
  rw [age, List.findSome?_append, hbefore, Option.none_or, List.findSome?_cons, hr, Option.bind_some, if_pos due]

/-- What a visit makes of the sweep unit, of the stamp of the record it takes, and of the configuration (R74). -/
structure VisitFrame (s u : State) (i : Index) : Prop where
  sweep : u.sweep = s.sweep
  stamp : ∀ q, u.record? i = some q → ∃ r, s.record? i = some r ∧ q.stamp = r.stamp
  config : ConfigKept s u

theorem VisitFrame.of_kept {s u : State} (i : Index) (h : TableKept s u) (config : ConfigKept s u) : VisitFrame s u i where
  sweep := h.sweep
  stamp q hq := by
    have hmarks := h.marks i
    rw [hq, Option.map_some, eq_comm, Option.map_eq_some_iff] at hmarks
    obtain ⟨r, hr, heq⟩ := hmarks
    exact ⟨r, hr, (Prod.mk.inj heq).2.symm⟩
  config := config

theorem VisitFrame.trans {a b d : State} {i : Index} (h : VisitFrame a b i) (g : VisitFrame b d i) : VisitFrame a d i where
  sweep := g.sweep.trans h.sweep
  stamp q hq := by
    obtain ⟨r, hr, hstamp⟩ := g.stamp q hq
    obtain ⟨w, hw, hstamp'⟩ := h.stamp r hr
    exact ⟨w, hw, hstamp.trans hstamp'⟩
  config := h.config.trans g.config

theorem VisitFrame.modifyRecord (s : State) (i : Index) {f : Record → Record} (hf : ∀ r, (f r).unit = r.unit ∧ (f r).stamp = r.stamp) :
    VisitFrame s (s.modifyRecord i f) i := .of_kept i (.modifyRecord s i hf) ⟨rfl, rfl, rfl, rfl, rfl, rfl, rfl, rfl⟩

/-- A release of a record that the sweep has visited leaves the unvisited count (R17, R74). -/
theorem VisitFrame.release {s : State} {i : Index} {r : Record} (hr : s.record? i = some r) (visited : r.stamp = s.sweep.parity) :
    VisitFrame s (s.release i) i where
  sweep := by
    rw [State.release_eq hr, State.detach_eq hr, SweepUnit.forget_eq, visited]
    dsimp only
    rw [if_pos rfl]
  stamp q hq := by rw [State.record?_release_self hr] at hq; cases hq
  config := by
    rw [State.release_eq hr, State.detach_eq hr]
    exact ⟨rfl, rfl, rfl, rfl, rfl, rfl, rfl, rfl⟩
theorem VisitFrame.poll (s : State) (p : Snapshot) (r : Record) (i : Index) : VisitFrame s (s.poll p r) i := by
  refine .of_kept i (.poll s p r) ?_
  unfold State.poll
  split
  · exact .refl s
  · split
    · exact ⟨rfl, rfl, rfl, rfl, rfl, rfl, rfl, rfl⟩
    · exact .refl s

theorem VisitFrame.decideHandover (s : State) (p : Snapshot) (i : Index) (r : Record) : VisitFrame s (s.decideHandover p i r) i := by
  refine .of_kept i (.decideHandover s p i r) ?_
  have hreviewed : ConfigKept s (s.reviewed p i r) := by
    unfold State.reviewed
    split
    · exact ⟨rfl, rfl, rfl, rfl, rfl, rfl, rfl, rfl⟩
    · exact ⟨rfl, rfl, rfl, rfl, rfl, rfl, rfl, rfl⟩
  cases hw : s.winner p r with
  | none => rw [State.decideHandover_of_winner_none hw]; exact hreviewed
  | some site =>
    rw [State.decideHandover_of_winner_some hw]
    split
    · exact hreviewed.trans ⟨rfl, rfl, rfl, rfl, rfl, rfl, rfl, rfl⟩
    · exact hreviewed

theorem VisitFrame.lose (s : State) (i : Index) (r : Record) : VisitFrame s (s.lose i r) i := by
  refine .of_kept i (.lose s i r) ?_
  rw [State.lose_eq]
  exact ⟨rfl, rfl, rfl, rfl, rfl, rfl, rfl, rfl⟩

theorem VisitFrame.visitActive (s : State) (p : Snapshot) (i : Index) (r : Record) : VisitFrame s (s.visitActive p i r) i := by
  unfold State.visitActive
  dsimp only
  refine (VisitFrame.modifyRecord s i (f := Record.shifted) fun _ => ⟨rfl, rfl⟩).trans ?_
  split
  · exact .lose _ i _
  · have haged := (VisitFrame.poll (s.modifyRecord i Record.shifted) p r.shifted i).trans
      (.modifyRecord _ i (f := fun r => r.agedEntries p.estimateLife) fun _ => ⟨rfl, rfl⟩)
    split
    · exact haged
    · exact haged.trans (.decideHandover _ p i _)

/-- A visited record with a further change of it, and released when it is old enough (R88, R89). -/
theorem VisitFrame.releaseOld {s : State} {i : Index} {r : Record} (hr : s.record? i = some r) (visited : r.stamp = s.sweep.parity)
    {f : Record → Record} (hf : ∀ r, (f r).unit = r.unit ∧ (f r).stamp = r.stamp) (old : Prop) [Decidable old] :
    VisitFrame s (if old then (s.modifyRecord i f).release i else s.modifyRecord i f) i := by
  have hold : (s.modifyRecord i f).record? i = some (f r) := by rw [State.record?_modifyRecord, if_pos rfl, hr]; rfl
  split
  · exact (VisitFrame.modifyRecord s i hf).trans (.release hold ((hf r).2.trans visited))
  · exact .modifyRecord s i hf

theorem VisitFrame.visitLost {s : State} {i : Index} {q : Record} (hq : s.record? i = some q) (visited : q.stamp = s.sweep.parity)
    (p : Snapshot) (r : Record) : VisitFrame s (s.visitLost p i r) i :=
  .releaseOld hq visited (f := fun r => { r.older with history := shiftHistory r.history r.heard, heard := false })
    (fun _ => ⟨rfl, rfl⟩) _

theorem VisitFrame.visitExpected {s : State} {i : Index} {q : Record} (hq : s.record? i = some q) (visited : q.stamp = s.sweep.parity)
    (p : Snapshot) (r : Record) : VisitFrame s (s.visitExpected p i r) i :=
  .releaseOld hq visited (f := Record.older) (fun _ => ⟨rfl, rfl⟩) _

theorem State.visitNext_of_transit {s : State} {p : Snapshot} {i : Index} {r : Record} (flight : s.sweep.inFlight = true)
    (snapshot : s.sweep.snapshot = some p) (next : s.nextVisit? = some (i, r)) (state : r.state = .transit) :
    s.visitNext = (s.stampVisited i).visitTransit p i := by
  simp only [State.visitNext, flight, snapshot, next, state]

theorem State.record?_stampVisited {s : State} {i : Index} {r : Record} (hr : s.record? i = some r) :
    (s.stampVisited i).record? i = some { r with stamp := s.sweep.parity } := by
  refine (State.record?_modifyRecord ..).trans ?_
  rw [if_pos rfl, hr]
  rfl

/-- What a visit does behind the stamp and the count leaves both (R74). -/
theorem VisitFrame.visitNext {s : State} {p : Snapshot} {i : Index} {r : Record} (flight : s.sweep.inFlight = true)
    (snapshot : s.sweep.snapshot = some p) (next : s.nextVisit? = some (i, r)) : VisitFrame (s.stampVisited i) s.visitNext i := by
  have hstamped := State.record?_stampVisited (State.record?_of_nextVisit? next)
  cases state : r.state with
  | active => rw [State.visitNext_of_active flight snapshot next state]; exact .visitActive _ p i r
  | transit =>
    rw [State.visitNext_of_transit flight snapshot next state]
    exact .modifyRecord _ i (f := fun r => r.shifted.agedEntries p.estimateLife) fun _ => ⟨rfl, rfl⟩
  | lost => rw [State.visitNext_of_lost flight snapshot next state]; exact .visitLost hstamped rfl p r
  | expected => rw [State.visitNext_of_expected flight snapshot next state]; exact .visitExpected hstamped rfl p r

/-! ## The end of the step in which the last record is visited -/

theorem State.settle_sweep_checkSweep (s : State) : s.settle.sweep = s.checkSweep.sweep := by simp [State.settle]

/-- The end of a finished sweep with none waiting behind it (R75). -/
theorem State.checkSweep_ended {s : State} (flight : s.sweep.inFlight = true) (done : s.sweep.unvisited = 0)
    (alone : s.sweep.due = false) : s.checkSweep = s.endSweep := by
  have hdue : s.endSweep.sweep.due = false := alone
  unfold State.checkSweep
  rw [if_pos ⟨flight, done⟩]
  dsimp only
  rw [hdue]
  rfl

/-- The end of a finished sweep with one waiting behind it: that one starts at once (R75). -/
theorem State.checkSweep_started {s : State} (flight : s.sweep.inFlight = true) (done : s.sweep.unvisited = 0)
    (waiting : s.sweep.due = true) :
    s.checkSweep = ({ s.endSweep with sweep := { s.endSweep.sweep with due := false } } : State).startSweep := by
  have hdue : s.endSweep.sweep.due = true := waiting
  unfold State.checkSweep
  rw [if_pos ⟨flight, done⟩]
  dsimp only
  rw [if_pos hdue]

/-- The end of a step keeps the chatter counts that the end of the sweep leaves (R71). -/
theorem State.settle_chatter_checkSweep (s : State) (c : Fin 4) :
    s.settle.ports.channels[c].chatter = s.checkSweep.ports.channels[c].chatter := by
  obtain ⟨hsweep, hchatter⟩ := s.checkSweep.kept_runArbiter.sweep s.checkSweep_alive
  obtain ⟨-, hlines⟩ := s.checkSweep.runArbiter.kept_refreshLines.sweep (by rw [hsweep]; exact s.checkSweep_alive)
  exact (hlines c).trans (hchatter c)

theorem Parity.flip_ne (p : Parity) : p.flip ≠ p := by cases p <;> decide

/-- A sweep that starts behind a finished one (R71, R75). -/
theorem State.settle_started {s : State} (flight : s.sweep.inFlight = true) (done : s.sweep.unvisited = 0) (waiting : s.sweep.due = true) :
    s.settle.sweep = { s.sweep with
        parity := s.sweep.parity.flip
        inFlight := !s.visitors.age.isEmpty
        unvisited := s.visitors.age.length
        due := false
        snapshot := if s.visitors.age = [] then none else some s.selected.snapshot }
      ∧ ∀ c : Fin 4, s.settle.ports.channels[c].chatter = 0 := by
  have hcheck := State.checkSweep_started flight done waiting
  rw [State.startSweep_eq] at hcheck
  refine ⟨by rw [State.settle_sweep_checkSweep, hcheck]; rfl, fun c => ?_⟩
  rw [State.settle_chatter_checkSweep, hcheck]
  exact congrArg ChannelPort.chatter (Vector.getElem_map ..)

/-- Settles O37: the visit stamps and counts one record, and the end of the step ends a sweep that has none left. -/
theorem visitTakesNextUnvisitedRecord : Obligations.VisitTakesNextUnvisitedRecord := by
  intro s p before after i r pin flight snapshot age visited hr due
  have hframe := VisitFrame.visitNext flight snapshot (State.nextVisit?_of_split age visited hr due)
  have hsweep : s.visitNext.sweep = { s.sweep with unvisited := s.sweep.unvisited - 1 } := hframe.sweep
  have hselected : s.visitNext.selected = s.selected := by
    have hprofiles : s.visitNext.profiles = s.profiles := hframe.config.profiles
    rw [State.selected, State.selected, hprofiles]
  obtain ⟨t, hexec, hup⟩ := event_served (f := State.visitNext) pin
  have hconfig : ConfigKept s t := ConfigKept.trans (b := s.stampVisited i) ⟨rfl, rfl, rfl, rfl, rfl, rfl, rfl, rfl⟩
    (hframe.config.trans hup.toEndOfStepFrame.config)
  refine ⟨t, hexec, fun q hq => ?_, fun many => ?_, fun last alone => ?_, fun last waiting => ?_, hconfig⟩
  · cases hv : s.visitNext.record? i with
    | none => rw [hup.vacant i hv] at hq; cases hq
    | some v =>
      obtain ⟨w, hw, hkept⟩ := hup.record i v hv
      obtain ⟨x, hx, hstamp⟩ := hframe.stamp v hv
      rw [State.record?_stampVisited hr] at hx
      cases hx
      rw [hw] at hq
      cases hq
      rw [hkept]
      exact hstamp
  · have halive : ¬(s.visitNext.sweep.inFlight = true ∧ s.visitNext.sweep.unvisited = 0) := by
      rw [hsweep]
      rintro ⟨-, hzero⟩
      dsimp only at hzero
      omega
    exact (hup.sweep halive).1.trans hsweep
  · have hlast : s.visitNext.sweep.unvisited = 0 := by rw [hsweep]; dsimp only; omega
    have hdue : s.visitNext.sweep.due = false := by rw [hsweep]; exact alone
    have hflight : s.visitNext.sweep.inFlight = true := by rw [hsweep]; exact flight
    rw [hup.eq_settle, State.settle_sweep_checkSweep, State.checkSweep_ended hflight hlast hdue, State.endSweep, hsweep, last]
  · have hlast : s.visitNext.sweep.unvisited = 0 := by rw [hsweep]; dsimp only; omega
    have hdue : s.visitNext.sweep.due = true := by rw [hsweep]; exact waiting
    have hflight : s.visitNext.sweep.inFlight = true := by rw [hsweep]; exact flight
    obtain ⟨hstarted, hchatter⟩ := State.settle_started hflight hlast hdue
    rw [← hup.eq_settle, ← hup.age, hselected, hsweep] at hstarted
    rw [hstarted]
    exact ⟨Parity.flip_ne _, rfl, rfl, rfl, rfl, rfl, fun c => by rw [hup.eq_settle]; exact hchatter c⟩

/-! ## The visits that keep their record -/

/-- The decision reads neither the stamp nor the history of the record it is given (R83 to R86). -/
theorem State.decideHandover_stamp (s : State) (p : Snapshot) (i : Index) (r : Record) (stamp : Parity) :
    s.decideHandover p i { r with stamp := stamp } = s.decideHandover p i r := rfl

theorem State.poll_of_serving {s : State} {r : Record} {c : Fin 4} (serving : r.serving = some c) (p : Snapshot) :
    s.poll p r = if 2 ≤ p.lossWindow ∧ r.silent (p.lossWindow - 1) ∧ s.ports.channels[c].state ≠ .closed
        ∧ s.ports.channels[c].queue.length < 32 then
      s.modifyChannel c (fun ch => { ch with queue := ch.queue ++ [.poll r.unit] }) else s := by
  simp only [State.poll, serving]
  rfl

/-- A poll and a change of a record do not meet (R80). -/
theorem State.poll_modifyRecord (s : State) (p : Snapshot) (r : Record) (i : Index) (f : Record → Record) :
    (s.poll p r).modifyRecord i f = (s.modifyRecord i f).poll p r := by
  cases hc : r.serving with
  | none => simp only [State.poll, hc]
  | some c =>
    rw [State.poll_of_serving hc, State.poll_of_serving hc, apply_ite (fun u : State => u.modifyRecord i f)]
    rfl

/-- The visit of an ACTIVE record that is not silent (R80, R81, R86). -/
theorem State.visitActive_heard {s : State} {p : Snapshot} {i : Index} {r : Record} (h : s.record? i = some r) {v : Record} {u : State}
    (hv : v = { r.visited s.sweep.parity with neighbours := (r.visited s.sweep.parity).entriesAged p.estimateLife })
    (hu : u = { s.modifyRecord i (fun _ => v) with sweep := { s.sweep with unvisited := s.sweep.unvisited - 1 } })
    (heard : r.shifted.silent p.lossWindow = false) :
    (s.stampVisited i).visitActive p i r =
      if v.inCall then u.poll p r.shifted else (u.poll p r.shifted).decideHandover p i v := by
  have haged : v = { r.shifted.agedEntries p.estimateLife with stamp := s.sweep.parity } := by rw [hv]; rfl
  unfold State.visitActive
  dsimp only
  rw [heard, if_neg Bool.false_ne_true, State.poll_modifyRecord, State.modifyRecord_modifyRecord, State.stampVisited_modifyRecord h, hu,
    haged, State.decideHandover_stamp]
  rfl

/-- Settles O38: both visits change one record; an ACTIVE one is then polled and decided on. -/
theorem visitShiftsAgesAndPolls : Obligations.VisitShiftsAgesAndPolls := by
  intro s p i r v u pin flight snapshot next hv hu
  have hrec := State.record?_of_nextVisit? next
  obtain ⟨t, hexec, hup⟩ := event_served (f := State.visitNext) pin
  refine ⟨fun state => ⟨t, hexec, ?_⟩, fun state heard c serving => ⟨t, hexec, ?_⟩⟩
  · rw [State.visitNext_of_transit flight snapshot next state, State.visitTransit, State.stampVisited_modifyRecord hrec] at hup
    rw [hu, hv]
    exact hup
  · have hheard : r.shifted.silent p.lossWindow = false := by
      rw [Bool.eq_false_iff]
      intro hsilent
      obtain ⟨h, hmem, htrue⟩ := heard
      rw [hv] at hmem
      exact absurd htrue (by rw [(Record.silent_iff _ _).mp hsilent h hmem]; exact Bool.false_ne_true)
    rw [State.visitNext_of_active flight snapshot next state, State.visitActive_heard hrec hv hu hheard] at hup
    have hpoll : u.poll p r.shifted =
        if 2 ≤ p.lossWindow ∧ (∀ h ∈ (v.history.toList.take (p.lossWindow - 1)), h = false)
            ∧ s.ports.channels[c].state ≠ .closed ∧ s.ports.channels[c].queue.length < 32 then
          u.modifyChannel c (fun ch => { ch with queue := ch.queue ++ [.poll r.unit] }) else u := by
      have hserving : r.shifted.serving = some c := serving
      have hports : u.ports = s.ports := by rw [hu]; rfl
      have hhistory : v.history = r.shifted.history := by rw [hv]; rfl
      rw [State.poll_of_serving hserving]
      simp only [hports, hhistory, Record.silent_iff]
      rfl
    rw [hpoll] at hup
    exact hup

end Sys2Proof.Machine
end

section
/-! PROOF. DEREGISTER, CALL START and CALL END, and the UPLINK sample of a MEASURE (02 R40, 03 R57 to R59). -/

namespace Sys2Proof.Machine

/-! ## An arrival that marks its radio heard (R8, R56) -/

theorem State.heardArrival_eq (s : State) (c : Fin 4) (i : Index) (r : Record) :
    s.heardArrival c i r = ((s.chattered c).markHeard i).reactivate i r := rfl

theorem State.countTalkgroups_modifyRecord (s : State) (i : Index) (f : Record → Record) (unit : Nat) (l : List Nat) :
    (s.modifyRecord i f).countTalkgroups unit l = ((s.countTalkgroups unit l).1.modifyRecord i f, (s.countTalkgroups unit l).2) := by
  refine (State.countTalkgroups_with s (s.visitors.modify i f) s.handover unit l).trans (Prod.ext ?_ rfl)
  rw [State.countTalkgroups_eq]
  rfl

/-- A change of the record that heeds neither its heard mark nor what a reactivation writes comes to the same before and behind the
arrival. -/
theorem State.modifyRecord_heard (s : State) (i : Index) (r : Record) {f : Record → Record}
    (heard : ∀ x, f { x with heard := true } = { f x with heard := true })
    (revived : ∀ x l, f { x with state := .active, history := allHeard, talkgroups := l } =
      { f x with state := .active, history := allHeard, talkgroups := l }) :
    ((s.modifyRecord i f).markHeard i).reactivate i r = ((s.markHeard i).reactivate i r).modifyRecord i f := by
  have hheard : (s.modifyRecord i f).markHeard i = (s.markHeard i).modifyRecord i f := by
    have hswap : (s.modifyRecord i f).modifyRecord i (fun x => { x with heard := true }) =
        (s.modifyRecord i (fun x => { x with heard := true })).modifyRecord i f := by
      rw [State.modifyRecord_modifyRecord, State.modifyRecord_modifyRecord]
      exact congrArg (s.modifyRecord i) (funext fun x => (heard x).symm)
    exact congrArg (fun u : State => u.toTail i) hswap
  rw [hheard]
  unfold State.reactivate
  split
  · rw [State.countTalkgroups_modifyRecord]
    dsimp only
    rw [State.modifyRecord_modifyRecord, State.modifyRecord_modifyRecord]
    exact congrArg (State.modifyRecord _ i) (funext fun x => (revived x _).symm)
  · rfl

/-- What the arrival leaves: everything but the table, the interest map, the alarms and the port's chatter count. -/
theorem State.heardArrival_frame (s : State) (c : Fin 4) (i : Index) (r : Record) : s.heardArrival c i r = { s.chattered c with
    visitors := (s.heardArrival c i r).visitors
    interest := (s.heardArrival c i r).interest
    ports := { (s.chattered c).ports with maintenance := { s.ports.maintenance with
      alarms := (s.heardArrival c i r).ports.maintenance.alarms } } } := by
  rw [State.heardArrival_eq]
  unfold State.reactivate
  split
  · dsimp only
    rw [State.countTalkgroups_eq]
    rfl
  · rfl

theorem State.record?_heardArrival {s : State} {i : Index} {r : Record} (h : s.record? i = some r) (live : r.state ≠ .lost) (c : Fin 4) :
    (s.heardArrival c i r).record? i = some { r with heard := true } := by
  have hr : (s.chattered c).record? i = some r := h
  rw [State.heardArrival_eq, State.reactivate, if_neg live, State.record?_markHeard, hr]
  simp

/-- The arrival of a radio whose record is not LOST gives the end of the step nothing to grant. -/
theorem Settled.settle_heardArrival {s : State} (hs : Settled s) (c : Fin 4) (i : Index) {r : Record} (live : r.state ≠ .lost)
    (f : Record → Record) :
    ((s.heardArrival c i r).modifyRecord i f).settle = ((s.heardArrival c i r).modifyRecord i f).refreshLines := by
  rw [State.heardArrival_eq, State.reactivate, if_neg live]
  refine (hs.chattered c).settle_same ⟨rfl, rfl⟩ ⟨rfl, rfl, rfl⟩ rfl rfl rfl fun j => ?_
  simp only [State.record?_modifyRecord, State.record?_markHeard]
  split
  next hj => simp [hj]
  next => simp

/-! ## The state behind a confirmation -/

/-- A request leaves the settled state of its service behind its confirmation. -/
theorem UpToGrants.eq_settle_confirm {u t : State} {p : Port} {c : Confirmation} (h : UpToGrants (u.confirm p c) t) :
    t = u.settle.confirm p c := h.eq_settle.trans ((State.kept_settle u).confirm p c).eq_settle.symm

/-- What a reply reads from the settled record, it reads from the record as the step leaves it. -/
theorem UpToGrants.readRecord {u t : State} {p : Port} {c : Confirmation} (h : UpToGrants (u.confirm p c) t) {i : Index} {q : Record}
    (hq : t.record? i = some q) {α : Type} (f : Record → α) (default : α) : u.settle.readRecord i f default = f q := by
  rw [h.eq_settle_confirm, State.record?_confirm] at hq
  rw [State.readRecord, hq]
  rfl

/-! ## DEREGISTER -/

/-- Settles O27: the service offers the CANCEL of the record's slot and releases the record. -/
theorem deregisterReleasesRecord : Obligations.DeregisterReleasesRecord := by
  intro c unit i r s pass hunit hfind
  obtain ⟨hr, -⟩ := State.find_eq_some hfind
  rw [exec_deregister hunit]
  have hserved : onChannel (.channel c) s (fun _ => deregisterService unit s) =
      ((s.offerRecordCancel r).1.release i, fun _ => .done false none (.deregistered r.state (s.offerRecordCancel r).2)) := by
    simp only [onChannel, deregisterService, hfind]
  refine ⟨fun hslot => ?_, fun k x hslot hx hxi => ?_⟩
  · have hoffer : s.offerRecordCancel r = (s, none) := by rw [State.offerRecordCancel, hslot]
    rw [hoffer] at hserved
    obtain ⟨t, hexec, hup⟩ := request_upToGrants
      (own := fun s => onChannel (.channel c) s fun _ => deregisterService unit s) pass rfl hserved
    exact ⟨t, hexec, hup.vacant i ((State.record?_confirm ..).trans (State.record?_release_self hr)), hup⟩
  · have hoffer : s.offerRecordCancel r =
        (s.offered (.cancel r.unit s.protection.site x.target k s.handover.slots[k].generation), some s.fateOfOffer) := by
      rw [State.offerRecordCancel, hslot]
      exact State.offerCancel_eq hx (by rw [hxi]; exact hr)
    rw [hoffer] at hserved
    have hkept : (s.offered (.cancel r.unit s.protection.site x.target k s.handover.slots[k].generation)).record? i = some r := by
      rw [State.offered_eq]
      exact hr
    obtain ⟨t, hexec, hup⟩ := request_upToGrants
      (own := fun s => onChannel (.channel c) s fun _ => deregisterService unit s) pass rfl hserved
    exact ⟨t, hexec, hup.vacant i ((State.record?_confirm ..).trans (State.record?_release_self hkept)), hup⟩

/-! ## CALL START and CALL END -/

theorem State.markCall_eq (s : State) (c : Fin 4) (i : Index) (r : Record) (inCall : Bool) :
    (s.chattered c).markCall i r inCall = (s.heardArrival c i r).modifyRecord i (fun x => { x with inCall := inCall }) := by
  rw [State.heardArrival_eq, State.markCall]
  exact State.modifyRecord_heard _ i r (fun _ => rfl) fun _ _ => rfl

/-- The record of a call as the step leaves it. -/
theorem UpToGrants.inCall {s t : State} {p : Port} {d : Confirmation} {c : Fin 4} {i : Index} {r : Record} {inCall : Bool}
    (h : UpToGrants (((s.heardArrival c i r).modifyRecord i (fun x => { x with inCall := inCall })).confirm p d) t)
    (hr : s.record? i = some r) : ∃ q, t.record? i = some q ∧ q.inCall = inCall := by
  obtain ⟨x, hx, -⟩ := State.record?_heard (s := s.chattered c) (i := i) hr
  have hcall : (((s.heardArrival c i r).modifyRecord i (fun x => { x with inCall := inCall })).confirm p d).record? i =
      some { x with inCall := inCall } := by
    rw [State.record?_confirm, State.record?_modifyRecord, if_pos rfl, State.heardArrival_eq, hx]
    rfl
  obtain ⟨q, hq, hkept⟩ := h.record i _ hcall
  exact ⟨q, hq, by rw [hkept]⟩

/-- What a MOVE attempt answers (R99): a CANCEL's fate on a CLOSED serving port, and no CANCEL otherwise. -/
theorem State.moveAttempt_cancel? {s : State} {k : Fin 8} {x : Transaction} {r : Record} {c : Fin 4}
    (h : s.handover.slots[k].transaction = some x) (hr : s.record? x.record = some r) (hc : r.serving = some c) :
    (s.moveAttempt k).2.cancel? = if s.ports.channels[c].state = .closed then some s.fateOfOffer else none := by
  obtain ⟨hclosed, hcall, hroom, hmove⟩ := State.moveAttempt_cases h hr hc
  split
  next hport =>
    rw [hclosed hport, State.abandon, State.failWithCancel_eq h hr]
    rfl
  next hport =>
    cases hin : r.inCall with
    | true => rw [hcall hport hin]; rfl
    | false =>
      rcases Nat.lt_or_ge s.ports.channels[c].queue.length 32 with hlt | hge
      · rw [hmove hport hin hlt]; rfl
      · rw [hroom hport hin hge]; rfl

/-- The channel ports behind the arrival keep their states and queues. -/
theorem State.channels_heardArrival (s : State) (c : Fin 4) (i : Index) (r : Record) (d : Fin 4) :
    (s.heardArrival c i r).ports.channels[d].state = s.ports.channels[d].state
      ∧ (s.heardArrival c i r).ports.channels[d].queue = s.ports.channels[d].queue := by
  rw [State.heardArrival_frame]
  have hport : (s.chattered c).ports.channels[d] =
      if d = c then { s.ports.channels[c] with chatter := s.ports.channels[c].chatter + 1 } else s.ports.channels[d] :=
    getElem_set_fin s.ports.channels c d _
  dsimp only
  rw [hport]
  split
  next hd => rw [hd]; exact ⟨rfl, rfl⟩
  next => exact ⟨rfl, rfl⟩

theorem State.outbound_heardArrival (s : State) (c : Fin 4) (i : Index) (r : Record) (p : Port) :
    (s.heardArrival c i r).outbound p = s.outbound p := by
  rw [State.heardArrival_frame, ← s.outbound_chattered c p]
  cases p with
  | maintenance => rfl
  | link => rfl
  | channel d => rfl

theorem callEndService_of_not_held {s : State} {c : Fin 4} {unit : Nat} {i : Index} {r : Record} (hfind : s.find unit = some (i, r))
    (free : ∀ k : Fin 8, r.slot = some k → s.phase? k ≠ some (.held .call)) :
    callEndService unit (s.chattered c) =
      ((s.heardArrival c i r).modifyRecord i (fun x => { x with inCall := false }), fun _ => .done false none (.callEnded none)) := by
  have hheld : ((s.heardArrival c i r).modifyRecord i (fun x => { x with inCall := false })).heldForCall? r = none := by
    rw [State.heldForCall?, Option.bind_eq_none_iff]
    intro k hk
    have hslots : ((s.heardArrival c i r).modifyRecord i (fun x => { x with inCall := false })).handover.slots[k] =
        s.handover.slots[k] := by
      rw [State.modifyRecord_handover, State.heardArrival_frame]
      rfl
    rw [hslots, if_neg]
    intro hany
    obtain ⟨x, hx, hphase⟩ := (Option.any_eq_true _ _).mp hany
    exact free k hk (by rw [State.phase?, hx]; exact congrArg some (beq_iff_eq.mp hphase))
  simp only [callEndService, State.find_chattered, hfind, State.markCall_eq, State.callEnded, hheld]

theorem callEndService_of_held {s : State} {c d : Fin 4} {unit : Nat} {i : Index} {r : Record} {k : Fin 8} {x : Transaction}
    (hfind : s.find unit = some (i, r)) (slot : r.slot = some k) (transit : r.state = .transit)
    (hx : s.handover.slots[k].transaction = some x) (phase : x.phase = .held .call) (own : x.record = i) (serving : r.serving = some d) :
    callEndService unit (s.chattered c) =
      (((s.heardArrival c i r).modifyRecord i (fun y => { y with inCall := false })).attempted k x { r with inCall := false } d,
        fun _ => .done false none (.callEnded (if s.ports.channels[d].state = .closed then some s.fateOfOffer else none))) := by
  obtain ⟨hr, -⟩ := State.find_eq_some hfind
  generalize hu : (s.heardArrival c i r).modifyRecord i (fun y => { y with inCall := false }) = u
  have hslots : u.handover.slots[k].transaction = some x := by
    rw [← hu, State.modifyRecord_handover, State.heardArrival_frame]
    exact hx
  have hrec : u.record? x.record = some { r with heard := true, inCall := false } := by
    rw [← hu, own, State.record?_modifyRecord, if_pos rfl, State.record?_heardArrival hr (by rw [transit]; decide)]
    rfl
  have hheld : u.heldForCall? r = some k := by
    rw [State.heldForCall?, slot, Option.bind_some, hslots, Option.any_some, phase]
    rfl
  have hstate : u.ports.channels[d].state = s.ports.channels[d].state := by
    rw [← hu]
    exact (s.channels_heardArrival c i r d).1
  have hfate : u.fateOfOffer = s.fateOfOffer := by
    rw [← hu, State.fateOfOffer, State.modifyRecord_ports, State.heardArrival_frame]
    rfl
  have hmove := State.moveAttempt_eq hslots hrec serving
  have hcancel := State.moveAttempt_cancel? hslots hrec serving
  rw [hstate, hfate] at hcancel
  simp only [callEndService, State.find_chattered, hfind, State.markCall_eq, State.callEnded, hu, hheld, hmove, hcancel]
  rfl

/-- Settles O28: both mark the record, and a CALL END makes the MOVE attempt of a slot HELD for the call. -/
theorem callsMarkRecord : Obligations.CallsMarkRecord := by
  intro c unit i r s hunit hfind
  obtain ⟨hr, -⟩ := State.find_eq_some hfind
  have hheld : Passes s .callEnd (.channel c) → ∀ (k : Fin 8) (x : Transaction) (d : Fin 4), r.slot = some k → r.state = .transit →
      s.handover.slots[k].transaction = some x → x.phase = .held .call → x.record = i → r.serving = some d →
      ∃ t, exec (.callEnd (.channel c) unit) s = .next t ∧ UpToGrants
        ((((s.heardArrival c i r).modifyRecord i (fun y => { y with inCall := false })).attempted k x
            { r with inCall := false } d).confirm (.channel c)
          ⟨20, .done false none (.callEnded (if s.ports.channels[d].state = .closed then some s.fateOfOffer else none))⟩) t :=
    fun pass k x d slot transit hx phase own serving => by
      rw [exec_callEnd hunit]
      exact request_upToGrants_counted (own := fun s => onChannel (.channel c) s fun _ => callEndService unit s) pass rfl
        (callEndService_of_held hfind slot transit hx phase own serving)
  refine ⟨fun pass => ?_, fun pass free => ?_, fun pass k x d slot transit hx phase own serving ready room => ?_, hheld⟩
  · rw [exec_callStart hunit]
    obtain ⟨t, hexec, hup⟩ := request_served_counted (own := fun s => onChannel (.channel c) s fun _ => callStartService unit s) pass rfl
    have hserved : onChannel (.channel c) (s.chattered c) (fun _ => callStartService unit (s.chattered c)) =
        ((s.heardArrival c i r).modifyRecord i (fun x => { x with inCall := true }),
          fun t => .done false none (.callStarted (t.readRecord i Record.state r.state))) := by
      simp only [onChannel, callStartService, State.find_chattered, hfind, State.markCall_eq]
    rw [hserved] at hup
    dsimp only at hup
    obtain ⟨q, hq, hcall⟩ := hup.inCall hr
    rw [hup.readRecord hq] at hup
    exact ⟨t, q, hexec, hq, hcall, hup⟩
  · rw [exec_callEnd hunit]
    obtain ⟨t, hexec, hup⟩ := request_upToGrants_counted (own := fun s => onChannel (.channel c) s fun _ => callEndService unit s) pass rfl
      (callEndService_of_not_held hfind free)
    obtain ⟨q, hq, hcall⟩ := hup.inCall hr
    exact ⟨t, q, hexec, hq, hcall, hup⟩
  · obtain ⟨t, hexec, hup⟩ := hheld pass k x d slot transit hx phase own serving
    rw [if_neg ready] at hup
    generalize hu : (s.heardArrival c i r).modifyRecord i (fun y => { y with inCall := false }) = u at hup
    obtain ⟨hstate, hqueue⟩ := s.channels_heardArrival c i r d
    have hports : u.ports = (s.heardArrival c i r).ports := by rw [← hu]; rfl
    have hslots : u.handover = s.handover := by rw [← hu, State.modifyRecord_handover, State.heardArrival_frame]; rfl
    have hmove : u.attempted k x { r with inCall := false } d =
        (u.withSlot k ⟨s.handover.slots[k].generation, some { x with phase := .ordered, timer := ⟨x.claimTimeout, 0⟩ }⟩).modifyChannel d
          (fun p => { p with queue := p.queue ++ [.move r.unit x.target k s.handover.slots[k].generation] }) := by
      unfold State.attempted
      dsimp only
      rw [hports, hstate, hqueue, if_neg ready, if_neg Bool.false_ne_true, if_neg (Nat.not_le.mpr room), hslots]
    have hslot : ((u.attempted k x { r with inCall := false } d).confirm (.channel c)
      ⟨20, .done false none (.callEnded none)⟩).handover.slots[k] =
        ⟨s.handover.slots[k].generation, some { x with phase := .ordered, timer := ⟨x.claimTimeout, 0⟩ }⟩ := by
      rw [State.confirm_handover, hmove]
      exact Vector.getElem_set_self ..
    have hfree : (u.attempted k x { r with inCall := false } d).outbound (.channel c) = [] := by
      rw [(AttemptFrame.attempted u k x _ d).outbound, ← hu]
      exact (s.outbound_heardArrival c i r _).trans pass.line
    refine ⟨t, hexec, (hup.slots k _ (congrArg Slot.transaction hslot)).trans hslot, ?_, hup.line hfree⟩
    have hposted := hup.channelQueue d
    rw [State.confirm, State.setOutbound_channel_queue, hmove, State.channels_modifyChannel, if_pos rfl] at hposted
    rw [hposted, ← hqueue, ← hports]
    rfl

/-! ## The UPLINK sample of a MEASURE -/

theorem measureService_uplink {s : State} {c : Fin 4} {f : MeasureFields} {i : Index} {r : Record} (hfind : s.find f.unit = some (i, r))
    (uplink : f.source = 0) :
    measureService f (s.chattered c) = ((s.heardArrival c i r).modifyRecord i (fun x =>
        { x with home := some ((s.scored f.attenuation f.grade).into r.home).1 }),
      fun _ => .done (s.scored f.attenuation f.grade).adjusted (some .applied) (.measured (s.scored f.attenuation f.grade).sample
        ((s.scored f.attenuation f.grade).into r.home).2 (some .home) (some ((s.scored f.attenuation f.grade).into r.home).1) none)) := by
  have hscored : (s.heardArrival c i r).scored f.attenuation f.grade = s.scored f.attenuation f.grade := by
    rw [State.heardArrival_frame]
    rfl
  simp only [measureService, State.find_chattered, hfind, ← State.heardArrival_eq, applySample, uplink, if_pos, hscored]

/-- Settles O33: the sample is folded into the home estimate that the record shows. -/
theorem measureUplinkUpdatesHome : Obligations.MeasureUplinkUpdatesHome := by
  intro c f i r s e w pass hunit uplink hfind absent present
  have hinto : (s.scored f.attenuation f.grade).into r.home = (e, w) := by
    cases hhome : r.home with
    | none =>
      obtain ⟨rfl, rfl⟩ := absent hhome
      rfl
    | some h =>
      obtain ⟨rfl, rfl⟩ := present h hhome
      rfl
  have hserved := measureService_uplink (c := c) hfind uplink
  rw [hinto] at hserved
  rw [exec_measure hunit (.inl uplink)]
  refine ⟨?_, fun hs live => ?_⟩
  · exact request_upToGrants_counted (own := fun s => onChannel (.channel c) s fun _ => measureService f s) pass rfl hserved
  · exact request_reply_counted (own := fun s => onChannel (.channel c) s fun _ => measureService f s) pass rfl hserved
      (hs.settle_heardArrival c i live _)

end Sys2Proof.Machine
end

section
/-! PROOF. The DOWNLINK sample of a MEASURE (02 R41 to R44). -/

namespace Sys2Proof.Machine

/-! ## The entry a sample may displace (R43) -/

/-- An entry gives way before another: a lower estimate, or an equal one and no lower site (R43). -/
def NeighbourEntry.GivesWay (d e : NeighbourEntry) : Prop := d.estimate < e.estimate ∨ (d.estimate = e.estimate ∧ e.site ≤ d.site)

theorem NeighbourEntry.GivesWay.trans {a b d : NeighbourEntry} (h : a.GivesWay b) (g : b.GivesWay d) : a.GivesWay d := by
  unfold NeighbourEntry.GivesWay at *
  omega

theorem weakest_givesWay {l : List NeighbourEntry} {w : NeighbourEntry} (h : weakest l = some w) : ∀ e ∈ l, w.GivesWay e := by
  induction l generalizing w with
  | nil => cases h
  | cons x rest ih =>
    unfold weakest at h
    split at h
    next hnone =>
      cases h
      cases rest with
      | nil => simp [NeighbourEntry.GivesWay]
      | cons y rest =>
        unfold weakest at hnone
        split at hnone
        · cases hnone
        · split at hnone <;> cases hnone
    next v hv =>
      split at h
      next hlower =>
        rw [Option.some.injEq] at h
        subst h
        have hfirst : x.GivesWay v := by unfold NeighbourEntry.GivesWay; omega
        intro e he
        rcases List.mem_cons.mp he with rfl | he
        · exact .inr ⟨rfl, Nat.le_refl _⟩
        · exact hfirst.trans (ih hv e he)
      next hlower =>
        cases h
        intro e he
        rcases List.mem_cons.mp he with rfl | he
        · unfold NeighbourEntry.GivesWay
          omega
        · exact ih hv e he

theorem weakest_ne_none {l : List NeighbourEntry} (h : l ≠ []) : weakest l ≠ none := by
  cases l with
  | nil => exact absurd rfl h
  | cons x rest =>
    unfold weakest
    split
    · exact nofun
    · split <;> exact nofun

/-- Any entry that gives way before all of them has the estimate and the site of the weakest. -/
theorem weakest_of_givesWay {l : List NeighbourEntry} {d : NeighbourEntry} (hd : d ∈ l) (first : ∀ e ∈ l, d.GivesWay e) :
    ∃ w, weakest l = some w ∧ w.estimate = d.estimate ∧ w.site = d.site := by
  obtain ⟨w, hw⟩ := Option.ne_none_iff_exists'.mp (weakest_ne_none (List.ne_nil_of_mem hd))
  have hbefore := weakest_givesWay hw d hd
  have hbehind := first w (weakest_mem hw)
  unfold NeighbourEntry.GivesWay at hbefore hbehind
  exact ⟨w, hw, by omega, by omega⟩

/-! ## Where a sample goes (R41 to R43) -/

theorem routeDownlink_of_entry {l : List NeighbourEntry} {e : NeighbourEntry} (he : e ∈ l)
    (unique : ∀ d ∈ l, d.site = e.site → d = e) (c : Scored) (late : Bool) :
    routeDownlink l e.site c late = some ⟨l.map (fun d => if d.site = e.site then
        { d with estimate := smoothed e.estimate c.sample c.weight, age := 0 } else d),
      smoothed e.estimate c.sample c.weight, c.weight, none⟩ := by
  have hfind : l.find? (fun d => d.site == e.site) = some e := by
    cases hfound : l.find? (fun d => d.site == e.site) with
    | none => exact absurd (beq_self_eq_true e.site) (List.find?_eq_none.mp hfound e he)
    | some d =>
      have hsite := List.find?_some (p := fun d : NeighbourEntry => d.site == e.site) hfound
      rw [unique d (List.mem_of_find?_eq_some hfound) (beq_iff_eq.mp hsite)]
  unfold routeDownlink
  rw [hfind]

theorem routeDownlink_of_room {l : List NeighbourEntry} {site : Nat} (absent : ∀ e ∈ l, e.site ≠ site) (room : l.length < 3) (c : Scored)
    (late : Bool) : routeDownlink l site c late = some ⟨l ++ [⟨site, 16 * c.sample, 0, 0, 0, late⟩], 16 * c.sample, 16, none⟩ := by
  have hfind : l.find? (fun d => d.site == site) = none :=
    List.find?_eq_none.mpr fun e he => by rw [beq_iff_eq]; exact absent e he
  unfold routeDownlink
  rw [hfind]
  exact if_pos room

theorem routeDownlink_of_full {l : List NeighbourEntry} {site : Nat} {d : NeighbourEntry} (absent : ∀ e ∈ l, e.site ≠ site)
    (full : 3 ≤ l.length) (hd : d ∈ l) (first : ∀ e ∈ l, d.GivesWay e) (c : Scored) (late : Bool) :
    routeDownlink l site c late = if d.estimate < 16 * c.sample then
      some ⟨l.map (fun e => if e.site = d.site then ⟨site, 16 * c.sample, 0, 0, 0, late⟩ else e), 16 * c.sample, 16, some d.site⟩
      else none := by
  have hfind : l.find? (fun d => d.site == site) = none :=
    List.find?_eq_none.mpr fun e he => by rw [beq_iff_eq]; exact absent e he
  obtain ⟨w, hw, hestimate, hsite⟩ := weakest_of_givesWay hd first
  unfold routeDownlink
  rw [hfind]
  dsimp only
  rw [if_neg (Nat.not_lt.mpr full), hw]
  dsimp only
  rw [hestimate, hsite]
  rfl

/-! ## The service -/

/-- What routes a DOWNLINK sample is as it was before the arrival. -/
theorem State.heardArrival_reads (s : State) (c : Fin 4) (i : Index) (r : Record) (a g site : Nat) (q : Record) :
    (s.heardArrival c i r).scored a g = s.scored a g ∧ (s.heardArrival c i r).protection = s.protection
      ∧ (s.heardArrival c i r).neighbour? site = s.neighbour? site ∧ (s.heardArrival c i r).targetOf? q = s.targetOf? q := by
  rw [State.heardArrival_frame]
  exact ⟨rfl, rfl, rfl, rfl⟩

/-- A DOWNLINK sample that is not applicable, or finds no entry to write (R41, R43). -/
theorem measureService_discarded {s : State} {c : Fin 4} {f : MeasureFields} {i : Index} {r : Record}
    (hfind : s.find f.unit = some (i, r)) (downlink : f.source = 1)
    (lost : (f.site = s.protection.site ∨ (s.neighbour? f.site).isNone = true)
      ∨ routeDownlink r.neighbours f.site (s.scored f.attenuation f.grade) (s.targetOf? r == some f.site) = none) :
    measureService f (s.chattered c) = (s.heardArrival c i r, fun _ => .done (s.scored f.attenuation f.grade).adjusted (some .discarded)
      (.measured (s.scored f.attenuation f.grade).sample (s.scored f.attenuation f.grade).weight none none none)) := by
  obtain ⟨hscored, hown, hneighbour, htarget⟩ := s.heardArrival_reads c i r f.attenuation f.grade f.site r
  have hserve : measureService f (s.chattered c) = applySample (s.heardArrival c i r) i r f := by
    simp only [measureService, State.find_chattered, hfind, ← State.heardArrival_eq]
  rw [hserve, applySample, hscored, hown, hneighbour, htarget, downlink, if_neg Nat.one_ne_zero]
  dsimp only
  split
  next => rfl
  next applicable => rw [lost.resolve_left applicable]

theorem measureService_routed {s : State} {c : Fin 4} {f : MeasureFields} {i : Index} {r : Record} {t : Routed}
    (hfind : s.find f.unit = some (i, r)) (downlink : f.source = 1)
    (applicable : ¬(f.site = s.protection.site ∨ (s.neighbour? f.site).isNone = true))
    (routed : routeDownlink r.neighbours f.site (s.scored f.attenuation f.grade) (s.targetOf? r == some f.site) = some t) :
    measureService f (s.chattered c) = ((s.heardArrival c i r).modifyRecord i (fun x => { x with neighbours := t.entries }),
      fun _ => .done (s.scored f.attenuation f.grade).adjusted (some .applied)
        (.measured (s.scored f.attenuation f.grade).sample t.weight (some (.site f.site)) (some t.estimate) t.displaced)) := by
  obtain ⟨hscored, hown, hneighbour, htarget⟩ := s.heardArrival_reads c i r f.attenuation f.grade f.site r
  have hserve : measureService f (s.chattered c) = applySample (s.heardArrival c i r) i r f := by
    simp only [measureService, State.find_chattered, hfind, ← State.heardArrival_eq]
  rw [hserve, applySample, hscored, hown, hneighbour, htarget, downlink, if_neg Nat.one_ne_zero, if_neg applicable, routed]

/-- Settles O34: the sample is discarded, or routed to one entry of the record. -/
theorem measureDownlinkWritesEntry : Obligations.MeasureDownlinkWritesEntry := by
  intro c f i r s x w late pass hunit downlink low high hfind hx hw hlate
  subst hx hw
  have htarget : (s.targetOf? r == some f.site) = late := by
    rw [Bool.eq_iff_iff, beq_iff_eq, State.targetOf?_eq_some]
    exact hlate.symm
  rw [exec_measure hunit (.inr ⟨downlink, low, high⟩)]
  have hserve : ∀ {u : State} {reply : Reply}, measureService f (s.chattered c) = (u, fun _ => reply) →
      ∃ t, request .measure (.channel c) true false true (fun s => onChannel (.channel c) s fun _ => measureService f s) s = .next t
        ∧ UpToGrants (u.confirm (.channel c) ⟨18, reply⟩) t := fun served =>
    request_upToGrants_counted (own := fun s => onChannel (.channel c) s fun _ => measureService f s) pass rfl served
  refine ⟨fun outside => hserve (measureService_discarded hfind downlink (.inl ?_)), fun k n hn hsite other => ?_⟩
  · rcases outside with hown | habsent
    · exact .inl hown
    · refine .inr ?_
      rw [State.neighbour?, State.neighbourSlot?_eq_none.mpr habsent]
      rfl
  · have happlicable : ¬(f.site = s.protection.site ∨ (s.neighbour? f.site).isNone = true) := by
      rintro (hown | hnone)
      · exact other hown
      · cases hslot : s.neighbourSlot? f.site with
        | none => exact State.neighbourSlot?_eq_none.mp hslot k n hn hsite
        | some j =>
          obtain ⟨m, hm, -⟩ := State.neighbourSlot?_eq_some hslot
          rw [State.neighbour?, hslot, Option.bind_some, hm] at hnone
          cases hnone
    have hrouted : ∀ {t : Routed}, routeDownlink r.neighbours f.site (s.scored f.attenuation f.grade) late = some t → _ := fun routed =>
      hserve (measureService_routed (c := c) hfind downlink happlicable (by rw [htarget]; exact routed))
    refine ⟨fun e he hesite unique => ?_, fun absent room => ?_, fun d hd absent full first => ⟨fun weak => ?_, fun strong => ?_⟩⟩
    · refine hrouted (t := ⟨_, _, _, _⟩) ?_
      rw [← hesite]
      exact routeDownlink_of_entry he (fun d hd hdsite => unique d hd (hdsite.trans hesite)) _ late
    · exact hrouted (routeDownlink_of_room absent room _ late)
    · exact hrouted ((routeDownlink_of_full absent full hd first _ late).trans (if_pos weak))
    · refine hserve (measureService_discarded hfind downlink (.inr ?_))
      rw [htarget, routeDownlink_of_full absent full hd first, if_neg (Nat.not_lt.mpr strong)]

end Sys2Proof.Machine
end

section
/-! PROOF. The interest map's counts and timers (06 R121 to R125, 09 R173, R176). -/

namespace Sys2Proof.Machine

/-! ## Increments and decrements (R121 to R124) -/

theorem InterestMap.increment_of_held {m : InterestMap} {tg : Nat} {k : Place} {e : MapEntry} (place : m.place? tg = some k)
    (entry : m.places[k] = some e) : m.increment tg = some { m with
      places := m.places.set k (some { e with count := e.count + 1, phase := .joined })
      leaving := m.leaving.filter (fun j => j != k) } := by
  unfold InterestMap.increment
  rw [place]
  dsimp only
  rw [entry]

theorem InterestMap.decrement_of_many {m : InterestMap} {tg : Nat} {k : Place} {e : MapEntry} (place : m.place? tg = some k)
    (entry : m.places[k] = some e) (many : 2 ≤ e.count) (hold : Nat) :
    m.decrement hold tg = { m with places := m.places.set k (some { e with count := e.count - 1 }) } := by
  unfold InterestMap.decrement
  rw [place]
  dsimp only
  rw [entry]
  exact if_pos many

theorem InterestMap.decrement_of_last {m : InterestMap} {tg : Nat} {k : Place} {e : MapEntry} (place : m.place? tg = some k)
    (entry : m.places[k] = some e) (last : e.count = 1) (hold : Nat) : m.decrement hold tg = { m with
      places := m.places.set k (some { e with count := 0, phase := .leaving ⟨hold, 0⟩ })
      leaving := m.leaving ++ [k] } := by
  unfold InterestMap.decrement
  rw [place]
  dsimp only
  rw [entry]
  dsimp only
  rw [if_neg (by omega), if_pos last]
  rfl

theorem InterestMap.decrement_of_absent {m : InterestMap} {tg : Nat} (absent : m.place? tg = none) (hold : Nat) :
    m.decrement hold tg = m := by
  unfold InterestMap.decrement
  rw [absent]

theorem InterestMap.emptyPlace?_eq_some {m : InterestMap} {k : Place} (empty : m.places[k] = none)
    (first : ∀ j : Place, j < k → m.places[j] ≠ none) : m.emptyPlace? = some k :=
  firstPlace?_eq_some.mpr ⟨by rw [empty]; rfl, fun j hj => by rw [Option.isNone_eq_false_iff, Option.isSome_iff_ne_none]; exact first j hj⟩

theorem InterestMap.emptyPlace?_eq_none {m : InterestMap} (full : ∀ j : Place, m.places[j] ≠ none) : m.emptyPlace? = none :=
  firstPlace?_eq_none.mpr fun j => by rw [Option.isNone_eq_false_iff, Option.isSome_iff_ne_none]; exact full j

theorem InterestMap.increment_of_empty {m : InterestMap} {tg : Nat} {k : Place} (absent : m.place? tg = none)
    (empty : m.emptyPlace? = some k) :
    m.increment tg = some { m with places := m.places.set k (some ⟨tg, 1, .joined, false, m.owedLeaves.contains tg⟩) } := by
  unfold InterestMap.increment
  rw [absent]
  dsimp only
  rw [empty]
  rfl

theorem InterestMap.increment_of_none_leaving {m : InterestMap} {tg : Nat} (absent : m.place? tg = none) (full : m.emptyPlace? = none)
    (staying : m.leaving = []) : m.increment tg = none := by
  unfold InterestMap.increment
  rw [absent]
  dsimp only
  rw [full, staying]

/-- The place of the oldest LEAVING entry is taken over, and its LEAVE owed when it was announced (R124). -/
theorem InterestMap.increment_of_leaving {m : InterestMap} {tg : Nat} {k : Place} {rest : List Place} {e : MapEntry}
    (absent : m.place? tg = none) (full : m.emptyPlace? = none) (oldest : m.leaving = k :: rest) (entry : m.places[k] = some e) :
    m.increment tg = some
      { places := m.places.set k (some ⟨tg, 1, .joined, false,
          (if e.announced then m.owedLeaves ++ [e.talkgroup] else m.owedLeaves).contains tg⟩)
        leaving := (k :: rest).filter (fun j => j != k)
        owedLeaves := if e.announced then m.owedLeaves ++ [e.talkgroup] else m.owedLeaves } := by
  unfold InterestMap.increment
  rw [absent]
  dsimp only
  rw [full, oldest]
  dsimp only
  rw [InterestMap.remove, entry, InterestMap.create, InterestMap.setPlace]
  dsimp only
  rw [Vector.set_set_same, oldest]

/-! ## Alarms (R173) -/

theorem raiseIn_new {key : AlarmKey} {before : List Alarm} (other : ∀ a ∈ before, a.key ≠ key) (detail : Nat) :
    raiseIn key detail before = before ++ [⟨key, 1, detail⟩] := by
  induction before with
  | nil => rfl
  | cons a rest ih =>
    rw [raiseIn, if_neg (other a List.mem_cons_self), ih fun b hb => other b (List.mem_cons_of_mem a hb)]
    rfl

theorem raiseIn_merged {key : AlarmKey} {before : List Alarm} (other : ∀ a ∈ before, a.key ≠ key) (detail : Nat) {a : Alarm}
    (same : a.key = key) (after : List Alarm) :
    raiseIn key detail (before ++ a :: after) = before ++ ⟨key, min 255 (a.repeats + 1), detail⟩ :: after := by
  induction before with
  | nil =>
    rw [List.nil_append, raiseIn, if_pos same, ← same]
    rfl
  | cons b rest ih =>
    rw [List.cons_append, raiseIn, if_neg (other b List.mem_cons_self), ih fun d hd => other d (List.mem_cons_of_mem b hd)]
    rfl

/-- Settles O21: the cases of one increment and one decrement, their folds over a list, and the merging of an alarm. -/
theorem interestCountsMembers : Obligations.InterestCountsMembers := by
  refine ⟨fun m tg hold => ⟨fun k e entry htg first => ?_, fun absent => ?_⟩, fun s unit tg rest => ?_,
    fun key detail before after other => ⟨raiseIn_new other detail, fun a same => raiseIn_merged other detail same after⟩⟩
  · have hplace : m.place? tg = some k := InterestMap.place?_eq_some.mpr ⟨⟨e, entry, htg⟩, first⟩
    exact ⟨InterestMap.increment_of_held hplace entry, fun many => InterestMap.decrement_of_many hplace entry many hold,
      fun last => InterestMap.decrement_of_last hplace entry last hold⟩
  · have hplace : m.place? tg = none := InterestMap.place?_eq_none.mpr absent
    exact ⟨InterestMap.decrement_of_absent hplace hold,
      fun k empty first => InterestMap.increment_of_empty hplace (InterestMap.emptyPlace?_eq_some empty first),
      fun full staying => InterestMap.increment_of_none_leaving hplace (InterestMap.emptyPlace?_eq_none full) staying,
      fun k rest e full oldest entry => InterestMap.increment_of_leaving hplace (InterestMap.emptyPlace?_eq_none full) oldest entry⟩
  · refine ⟨rfl, fun m mapped => ?_, fun unmapped => ?_, rfl, rfl⟩
    · rw [State.countTalkgroups, mapped]
    · rw [State.countTalkgroups, unmapped]
      rfl

/-! ## The leave timer (R125) -/

theorem InterestMap.expire_of_leaving {m : InterestMap} {tg : Nat} {k : Place} {e : MapEntry} (place : m.place? tg = some k)
    (entry : m.places[k] = some e) (htg : e.talkgroup = tg) {x : Timer} (leaving : e.phase = .leaving x) : m.expire tg =
      { places := m.places.set k none
        leaving := m.leaving.filter (fun j => j != k)
        owedLeaves := if e.announced then m.owedLeaves ++ [tg] else m.owedLeaves } := by
  have hleaving : e.isLeaving = true := by rw [MapEntry.isLeaving, leaving]
  unfold InterestMap.expire
  rw [place]
  dsimp only
  rw [entry, Option.any_some, if_pos hleaving, InterestMap.remove, entry]
  dsimp only
  rw [htg]

theorem InterestMap.expire_of_joined {m : InterestMap} {tg : Nat} {k : Place} {e : MapEntry} (place : m.place? tg = some k)
    (entry : m.places[k] = some e) (joined : e.phase = .joined) : m.expire tg = m := by
  have hleaving : e.isLeaving = false := by rw [MapEntry.isLeaving, joined]
  unfold InterestMap.expire
  rw [place]
  dsimp only
  rw [entry, Option.any_some, hleaving, if_neg Bool.false_ne_true]

theorem InterestMap.expire_of_absent {m : InterestMap} {tg : Nat} (absent : m.place? tg = none) : m.expire tg = m := by
  unfold InterestMap.expire
  rw [absent]

/-! ## The link flush time (R176) -/

/-- The oldest notice made due raises the line: it has waited the flush time. -/
theorem Settled.settle_flushed {s : State} (hs : Settled s) {q : QueuedNotice} {rest : List QueuedNotice}
    (queue : s.ports.link.queue = q :: rest) :
    (s.modifyLink (fun p => { p with queue := flushOldest s.selected.flushTime p.queue })).settle = s.modifyLink (fun p =>
      { p with queue := ⟨q.notice, max q.waited s.selected.flushTime⟩ :: rest, attention := true }) := by
  have hflushed : flushOldest s.selected.flushTime s.ports.link.queue = ⟨q.notice, max q.waited s.selected.flushTime⟩ :: rest := by
    rw [queue]
    rfl
  generalize hu : s.modifyLink (fun p => { p with queue := flushOldest s.selected.flushTime p.queue }) = u
  have hroom : u.linkHasRoom = s.linkHasRoom := by
    rw [← hu]
    simp [State.linkHasRoom, State.modifyLink, flushOldest, queue]
  have harbiter : u.grantPlace = none := State.grantPlace_eq_none.mpr fun room => by
    rw [hroom] at room
    obtain ⟨hrefresh, hclaims, hleaves, hjoin, hgrant⟩ := State.grantPlace_eq_none.mp hs.arbiter room
    rw [← hu]
    exact ⟨hrefresh, hclaims, hleaves, hjoin, hgrant⟩
  have hlines : u.refreshLines = s.refreshLines.modifyLink (fun p =>
      { p with
        queue := flushOldest s.selected.flushTime s.ports.link.queue
        attention := linkCondition (flushOldest s.selected.flushTime s.ports.link.queue) s.ports.threshold s.selected.flushTime }) := by
    rw [← hu]
    rfl
  have hdue : linkCondition (⟨q.notice, max q.waited s.selected.flushTime⟩ :: rest) s.ports.threshold s.selected.flushTime = true := by
    simp [linkCondition]
  rw [State.settle, State.checkSweep_eq_self (by rw [← hu]; exact hs.sweep), State.runArbiter, State.grantPlaces_eq_self harbiter,
    hlines, hs.lines, hflushed, hdue]

/-- Settles O22: the expiry removes a LEAVING entry, and the flush time makes the oldest notice due. -/
theorem leaveAndFlushTimersExpire : Obligations.LeaveAndFlushTimersExpire := by
  intro s pin
  have hexec : ∀ tg : Nat, exec (.leaveTimerExpiry tg) s = .next ({ s with interest := s.interest.expire tg } : State).settle :=
    fun tg => event_eq (f := fun s => { s with interest := s.interest.expire tg }) pin
  have hidle : ∀ tg : Nat, s.interest.expire tg = s.interest → Settled s → exec (.leaveTimerExpiry tg) s = .next s := fun tg same hs => by
    rw [hexec, same]
    exact congrArg _ hs.settle_eq
  refine ⟨fun tg k e entry htg unique => ?_, fun tg absent hs => ?_, fun hs => ?_⟩
  · have hplace : s.interest.place? tg = some k := InterestMap.place?_eq_some.mpr ⟨⟨e, entry, htg⟩, fun j d hj hd hdtg =>
      absurd (unique j d hd hdtg) (Fin.ne_of_lt hj)⟩
    refine ⟨fun x leaving => ⟨_, hexec tg, ?_⟩, fun joined hs => hidle tg (InterestMap.expire_of_joined hplace entry joined) hs⟩
    rw [InterestMap.expire_of_leaving hplace entry htg leaving]
    exact State.kept_settle _
  · exact hidle tg (InterestMap.expire_of_absent (InterestMap.place?_eq_none.mpr absent)) hs
  · refine ⟨_, event_eq (f := fun s => s.modifyLink (fun p => { p with queue := flushOldest s.selected.flushTime p.queue })) pin,
      fun empty => ?_, fun q rest queue => hs.settle_flushed queue⟩
    have hsame : s.modifyLink (fun p => { p with queue := flushOldest s.selected.flushTime p.queue }) = s := by
      have hflushed : flushOldest s.selected.flushTime s.ports.link.queue = s.ports.link.queue := by rw [empty]; rfl
      exact congrArg (fun queue => s.modifyLink (fun p => { p with queue := queue })) hflushed
    rw [hsame, hs.settle_eq]

end Sys2Proof.Machine
end

section
/-! PROOF. REGISTER of a radio that no record holds (03 R46 to R50): a record from the free list, an evicted one, or none. -/

namespace Sys2Proof.Machine

/-! ## A done REGISTER as one step (R49) -/

theorem exec_register {f : RegisterFields} {cls : RadioClass} (sized : f.talkgroups.length ≤ 15) (unit : NamesRadio f.unit)
    (seq : f.seq ≤ 15) (hcls : RadioClass.ofCode f.cls = some cls) (p : Port) (s : State) : exec (.register p f) s =
      request .register p true false true (fun s => onChannel p s (registerService f s)) s := by
  have hrange : RegisterFields.inRange f = true := by
    rw [RegisterFields.inRange, unitInRange_iff.mpr unit, hcls, fitsSequence, decide_eq_true seq]
    rfl
  show request .register p (countFits f.talkgroups) false (RegisterFields.inRange f) _ s = _
  rw [(countFits_iff _).mpr sized, hrange]

/-- What a done REGISTER reports of the record it wrote, `q` being that record as the step leaves it (R49). -/
def acceptedReply (f : RegisterFields) (sample : Scored) (i : Index) (r w q : Record) (registration : Registration) (cancel : Option Fate) :
    Reply :=
  .done (sample.adjusted || listReduced f.talkgroups) (some .applied) (.registered
    { registration := registration, index := i, seq := w.seq, grant := w.talkgroups, claimPending := q.claimPending
      sample := sample.sample, weight := (sample.into r.home).2, home := w.home.getD 0, cancel := cancel })

/-- A REGISTER that its service accepts into a record `r` writes `w` and reports it. -/
theorem register_accepted {s b u : State} {c : Fin 4} {f : RegisterFields} {cls : RadioClass} {i : Index} {r w : Record} {old : List Nat}
    {claim : Bool} {registration : Registration} {cancel : Option Fate} (pass : Passes s .register (.channel c))
    (sized : f.talkgroups.length ≤ 15) (unit : NamesRadio f.unit) (seq : f.seq ≤ 15) (hcls : RadioClass.ofCode f.cls = some cls)
    (served : registerService f (s.chattered c) c = b.accept c f i old claim registration cancel) (held : b.record? i = some r)
    (scored : b.scored f.attenuation f.grade = s.scored f.attenuation f.grade)
    (hu : (b.written c f i old claim).refreshHeld i = u) (hw : u.record? i = some w) :
    ∃ t q, exec (.register (.channel c) f) s = .next t ∧ t.record? i = some q ∧ w.keptBy q
      ∧ UpToGrants (u.confirm (.channel c)
          ⟨16, acceptedReply f (s.scored f.attenuation f.grade) i r w q registration cancel⟩) t := by
  have hreply : ∀ t : State, (b.accept c f i old claim registration cancel).2 t =
      .done ((b.scored f.attenuation f.grade).adjusted || listReduced f.talkgroups) (some .applied) (.registered
        { registration := registration, index := i, seq := t.readRecord i Record.seq f.seq, grant := t.readRecord i Record.talkgroups []
          claimPending := t.readRecord i Record.claimPending false, sample := (b.scored f.attenuation f.grade).sample
          weight := b.readRecord i (fun r => ((b.scored f.attenuation f.grade).into r.home).2) 16
          home := t.readRecord i (fun r => r.home.getD 0) 0, cancel := cancel }) := fun _ => rfl
  rw [exec_register sized unit seq hcls]
  obtain ⟨t, hexec, hup⟩ := request_served_counted (own := fun s => onChannel (.channel c) s (registerService f s)) pass rfl
  have hserved : onChannel (.channel c) (s.chattered c) (registerService f (s.chattered c)) =
      b.accept c f i old claim registration cancel := served
  rw [hserved, State.accept_fst, hu, hreply] at hup
  obtain ⟨q, hq, hkept⟩ := hup.record i w ((State.record?_confirm ..).trans hw)
  have hweight : b.readRecord i (fun r => ((b.scored f.attenuation f.grade).into r.home).2) 16 =
      ((s.scored f.attenuation f.grade).into r.home).2 := by
    rw [State.readRecord, held, scored]
    rfl
  have hstored : q.seq = w.seq ∧ q.talkgroups = w.talkgroups ∧ q.home = w.home := by
    rw [hkept]
    exact ⟨rfl, rfl, rfl⟩
  obtain ⟨hseq, htalkgroups, hhome⟩ := hstored
  rw [hup.readRecord hq, hup.readRecord hq, hup.readRecord hq, hup.readRecord hq, hweight, scored, hseq, htalkgroups, hhome] at hup
  exact ⟨t, q, hexec, hq, hkept, hup⟩

/-- A record in no slot makes no MOVE attempt (R103). -/
theorem State.refreshHeld_of_slotless {s : State} {i : Index} {r : Record} (h : s.record? i = some r) (slotless : r.slot = none) :
    s.refreshHeld i = s := by
  have hnone : s.heldSlot? i = none := by rw [State.heldSlot?, h, Option.bind_some, slotless, Option.bind_none]
  rw [State.refreshHeld, hnone]

/-! ## The record filled (R50) -/

/-- The record of a new registration: ACTIVE content from the request, a CLAIM owed (R16, R50). -/
def Record.entered (f : RegisterFields) (cls : RadioClass) (c : Fin 4) (talkgroups : List Nat) (sample : Nat) (stamp : Parity) : Record :=
  (Record.fresh f.unit cls f.seq .active stamp).registered c cls (16 * sample) talkgroups true

/-- Of a list without repeats, the members of a sublist are that sublist. -/
theorem filter_contains_of_sublist {l sub : List Nat} (h : sub.Sublist l) (nodup : l.Nodup) : l.filter (fun x => sub.contains x) = sub := by
  induction h with
  | slnil => rfl
  | @cons sub l x hsub ih =>
    obtain ⟨hx, hl⟩ := List.nodup_cons.mp nodup
    have hout : ¬sub.contains x = true := fun hc => hx (hsub.subset (List.contains_iff_mem.mp hc))
    rw [List.filter_cons_of_neg hout, ih hl]
  | @cons_cons sub l x hsub ih =>
    obtain ⟨hx, hl⟩ := List.nodup_cons.mp nodup
    have hin : (x :: sub).contains x = true := List.contains_iff_mem.mpr List.mem_cons_self
    have hrest : l.filter (fun y => (x :: sub).contains y) = l.filter (fun y => sub.contains y) := by
      refine List.filter_congr fun y hy => ?_
      have hyx : (y == x) = false := beq_eq_false_iff_ne.mpr fun hyx => hx (hyx ▸ hy)
      rw [List.contains_cons, hyx, Bool.false_or]
    rw [List.filter_cons_of_pos hin, hrest, ih hl]

theorem owedClaims_of_unowed {l : List PendingClaim} {i : Index} (unowed : ∀ x ∈ l, x.index ≠ i) (fresh : Bool) :
    owedClaims l i fresh true = l ++ [⟨i, fresh⟩] := by
  have hnone : ¬∃ x ∈ l, x.index = i := fun ⟨x, hx, hxi⟩ => unowed x hx hxi
  rw [owedClaims, if_neg (by decide), if_neg hnone]

/-- With no counted list before it the whole requested list is counted (R48, R50). -/
theorem State.recounted_nil (s : State) (unit : Nat) (requested : List Nat) :
    s.recounted unit [] requested = s.countTalkgroups unit requested := by
  have hall : requested.filter (fun tg => !([] : List Nat).contains tg) = requested := List.filter_eq_self.mpr fun _ _ => rfl
  rw [State.recounted, hall]
  rfl

/-- What a done REGISTER writes into a record just occupied. -/
theorem State.written_new {a b : State} {table : VisitorTable} {c : Fin 4} {f : RegisterFields} {cls : RadioClass} {i : Index}
    {stamp : Parity}
    (hb : b = { a with visitors := table.occupy i (.fresh f.unit cls f.seq .active stamp) })
    (hcls : RadioClass.ofCode f.cls = some cls) (offAge : i ∉ table.age) (unowed : ∀ x ∈ a.claims, x.index ≠ i) :
    b.written c f i [] true = { (a.countTalkgroups f.unit (requestedList f.talkgroups)).1 with
      visitors := table.occupy i (.entered f cls c (a.countTalkgroups f.unit (requestedList f.talkgroups)).2
        (a.scored f.attenuation f.grade).sample stamp)
      claims := a.claims ++ [⟨i, f.fresh⟩] } := by
  have held : b.record? i = some (.fresh f.unit cls f.seq .active stamp) := by
    rw [hb]
    exact Vector.getElem_set_self ..
  have hscored : b.scored f.attenuation f.grade = a.scored f.attenuation f.grade := by rw [hb]; rfl
  have hclaims : b.claims = a.claims := by rw [hb]
  have hcount : b.recounted f.unit [] (requestedList f.talkgroups) =
      ({ (a.countTalkgroups f.unit (requestedList f.talkgroups)).1 with visitors := b.visitors, handover := a.handover },
        (a.countTalkgroups f.unit (requestedList f.talkgroups)).2) := by
    rw [State.recounted_nil, hb]
    exact State.countTalkgroups_with a _ a.handover f.unit _
  have hhandover : b.handover.reclassed i (.fresh f.unit cls f.seq .active stamp) cls = a.handover := by
    rw [HandoverUnit.reclassed_eq, hb]
    exact if_neg fun hqueued => Bool.false_ne_true hqueued.1
  have hmapped : (requestedList f.talkgroups).filter (fun tg =>
      ([] : List Nat).contains tg || (a.countTalkgroups f.unit (requestedList f.talkgroups)).2.contains tg) =
        (a.countTalkgroups f.unit (requestedList f.talkgroups)).2 :=
    filter_contains_of_sublist (a.countTalkgroups_sublist f.unit _) (requestedList_nodup _)
  have htable : { b.visitors with
      records := b.visitors.records.set i (some (.entered f cls c (a.countTalkgroups f.unit (requestedList f.talkgroups)).2
        (a.scored f.attenuation f.grade).sample stamp))
      age := b.visitors.age.filter (fun j => j != i) ++ [i] } =
      table.occupy i (.entered f cls c (a.countTalkgroups f.unit (requestedList f.talkgroups)).2
        (a.scored f.attenuation f.grade).sample stamp) := by
    have hage : (table.age ++ [i]).filter (fun j => j != i) ++ [i] = table.age ++ [i] := by
      have hkeep : table.age.filter (fun j => j != i) = table.age :=
        List.filter_eq_self.mpr fun j hj => bne_iff_ne.mpr fun hji => offAge (hji ▸ hj)
      simp [hkeep]
    rw [hb]
    simp only [VisitorTable.occupy, Vector.set_set_same, hage]
    rfl
  have hkept : (a.countTalkgroups f.unit (requestedList f.talkgroups)).1.handover = a.handover := by rw [State.countTalkgroups_eq]
  rw [State.written_eq held c f [] true (cls := cls) (by rw [hcls, Option.getD_some])
    (home := 16 * (a.scored f.attenuation f.grade).sample) (by rw [hscored]; rfl) rfl,
    hcount, hclaims, hhandover, owedClaims_of_unowed unowed, ← hkept]
  dsimp only
  rw [hmapped]
  exact congrArg (fun visitors : VisitorTable => ({ (a.countTalkgroups f.unit (requestedList f.talkgroups)).1 with
    visitors := visitors, claims := a.claims ++ [⟨i, f.fresh⟩] } : State)) htable

theorem registerService_new {s t : State} {c : Fin 4} {f : RegisterFields} {cls : RadioClass} {i : Index} (absent : s.find f.unit = none)
    (hcls : RadioClass.ofCode f.cls = some cls) (given : s.allocate f.unit cls f.seq .active = some (t, i)) :
    registerService f s c = t.accept c f i [] true .new none := by
  simp only [registerService, absent, registerNew, hcls, Option.getD_some, given]

/-- A REGISTER that an allocation serves fills the record and reports it NEW (R50). -/
theorem register_new {s a : State} {table : VisitorTable} {c : Fin 4} {f : RegisterFields} {cls : RadioClass} {i : Index}
    (pass : Passes s .register (.channel c)) (sized : f.talkgroups.length ≤ 15) (unit : NamesRadio f.unit) (seq : f.seq ≤ 15)
    (hcls : RadioClass.ofCode f.cls = some cls) (absent : s.find f.unit = none)
    (given : (s.chattered c).allocate f.unit cls f.seq .active =
      some ({ a with visitors := table.occupy i (.fresh f.unit cls f.seq .active s.sweep.parity) }, i))
    (scored : a.scored f.attenuation f.grade = s.scored f.attenuation f.grade) (offAge : i ∉ table.age)
    (unowed : ∀ x ∈ a.claims, x.index ≠ i)
    {w : Record} (hw : w = Record.entered f cls c (a.countTalkgroups f.unit (requestedList f.talkgroups)).2
      (s.scored f.attenuation f.grade).sample s.sweep.parity) :
    ∃ t q, exec (.register (.channel c) f) s = .next t ∧ t.record? i = some q ∧ w.keptBy q
      ∧ UpToGrants
        (({ (a.countTalkgroups f.unit (requestedList f.talkgroups)).1 with
            visitors := table.occupy i w
            claims := a.claims ++ [⟨i, f.fresh⟩] } : State).confirm (.channel c)
          ⟨16, .done ((s.scored f.attenuation f.grade).adjusted || listReduced f.talkgroups) (some .applied) (.registered
            { registration := .new, index := i, seq := f.seq, grant := q.talkgroups, claimPending := q.claimPending
              sample := (s.scored f.attenuation f.grade).sample, weight := 16
              home := 16 * (s.scored f.attenuation f.grade).sample, cancel := none })⟩) t := by
  generalize hb : ({ a with visitors := table.occupy i (.fresh f.unit cls f.seq .active s.sweep.parity) } : State) = b at given
  have hbscored : b.scored f.attenuation f.grade = s.scored f.attenuation f.grade := by rw [← hb]; exact scored
  have hwritten := State.written_new (c := c) hb.symm hcls offAge unowed
  rw [scored, ← hw] at hwritten
  have hfilled : (b.written c f i [] true).record? i = some w := by
    rw [hwritten]
    exact Vector.getElem_set_self ..
  have hslot : w.slot = none := by rw [hw]; rfl
  obtain ⟨t, q, hexec, hq, hkept, hup⟩ := register_accepted pass sized unit seq hcls
    (registerService_new (absent : (s.chattered c).find f.unit = none) hcls given) (State.record?_allocate given) hbscored
    (State.refreshHeld_of_slotless hfilled hslot) hfilled
  have hgrant : q.talkgroups = w.talkgroups := by rw [hkept]
  rw [hwritten] at hup
  refine ⟨t, q, hexec, hq, hkept, ?_⟩
  rw [hgrant]
  rw [acceptedReply, hw] at hup
  rw [hw]
  exact hup

/-- Settles O24: the head of the free list is filled, and its talkgroups counted. -/
theorem registerNewFillsRecord : Obligations.RegisterNewFillsRecord := by
  refine ⟨fun c f cls i rest s pass sized unit seq hcls absent hfree hopen table claims => ?_, fun ids =>
    ⟨requestedList_eq ids, listReduced_iff ids⟩⟩
  have hvacant : s.record? i = none := (table.partition.free_iff i).mp (by rw [hfree]; exact List.mem_cons_self)
  have given := State.allocate_of_freeHead (s := s.chattered c) (VisitorTable.freeHead_of_open hfree hopen) f.unit f.seq .active
  rw [show (s.chattered c).visitors.free = i :: rest from hfree, List.tail_cons] at given
  have hoff : i ∉ s.visitors.age := fun hi => (table.partition.age_iff i).mp hi hvacant
  have hunowed : ∀ x ∈ (s.chattered c).claims, x.index ≠ i := fun x hx hxi => by
    have hmem := (claims.mem_iff i).mp (hxi ▸ List.mem_map_of_mem hx)
    rw [hvacant] at hmem
    cases hmem
  obtain ⟨t, q, hexec, hq, -, hup⟩ := register_new (a := s.chattered c) (table := { s.visitors with free := rest }) pass sized unit seq hcls
    absent given rfl hoff hunowed rfl
  exact ⟨t, q, hexec, hq, hup⟩

/-! ## A REGISTER that the free list cannot serve (R14, R50) -/

theorem ConfigKept.release {s : State} {i : Index} {r : Record} (hr : s.record? i = some r) : ConfigKept s (s.release i) := by
  rw [State.release_eq hr, State.detach_eq hr]
  exact ⟨rfl, rfl, rfl, rfl, rfl, rfl, rfl, rfl⟩

theorem ConfigKept.countTalkgroups (s : State) (unit : Nat) (l : List Nat) : ConfigKept s (s.countTalkgroups unit l).1 := by
  rw [State.countTalkgroups_eq]
  exact ⟨rfl, rfl, rfl, rfl, rfl, rfl, rfl, rfl⟩

theorem ConfigKept.filled (a : State) (unit : Nat) (l : List Nat) {table : VisitorTable} (reserve : table.reserve = a.visitors.reserve)
    (claims : List PendingClaim) : ConfigKept a { (a.countTalkgroups unit l).1 with visitors := table, claims := claims } :=
  have h := ConfigKept.countTalkgroups a unit l
  ⟨h.pending, h.resetPinLow, h.scoring, h.profiles, h.protection, reserve, h.allowance, h.threshold⟩

theorem ConfigKept.chattered (s : State) (c : Fin 4) : ConfigKept s (s.chattered c) := ⟨rfl, rfl, rfl, rfl, rfl, rfl, rfl, rfl⟩

/-- The records behind an eviction whose index is filled again. -/
theorem VisitorTable.records_occupy (t : VisitorTable) (i : Index) (r : Record) (j : Index) :
    (t.occupy i r).records[j] = if j = i then some r else t.records[j] := getElem_set_fin t.records i j _

/-- What a release leaves of the age list, the claims, the neighbour table and the other records (R17). -/
theorem State.release_leaves {s : State} {i : Index} {r : Record} (hr : s.record? i = some r) :
    (s.release i).visitors.age = s.visitors.age.filter (fun j => j != i)
      ∧ (s.release i).claims = s.claims.filter (fun e => e.index != i) ∧ (s.release i).neighbours = s.neighbours
      ∧ ∀ j : Index, j ≠ i → (s.release i).record? j = s.record? j := by
  rw [State.release_eq hr]
  refine ⟨?_, ?_, ?_, fun j hj => (State.record?_detach hr j).trans (if_neg hj)⟩
  · rw [State.detach_eq hr]; rfl
  · rw [State.detach_eq hr]
  · rw [State.detach_eq hr]

/-- An index taken out of a list without repeats leaves the rest in order. -/
theorem filter_ne_of_nodup {before after : List Index} {i : Index} (nodup : (before ++ i :: after).Nodup) :
    (before ++ i :: after).filter (fun j => j != i) = before ++ after := by
  have hmiddle := (List.nodup_middle).mp nodup
  have hi : i ∉ before ++ after := (List.nodup_cons.mp hmiddle).1
  have hkeep : (before ++ after).filter (fun j => j != i) = before ++ after :=
    List.filter_eq_self.mpr fun j hj => bne_iff_ne.mpr fun hji => hi (hji ▸ hj)
  rw [List.filter_append] at hkeep ⊢
  rw [List.filter_cons_of_neg (by simp)]
  exact hkeep

theorem registerService_full {s : State} {c : Fin 4} {f : RegisterFields} {cls : RadioClass} (absent : s.find f.unit = none)
    (hcls : RadioClass.ofCode f.cls = some cls) (given : s.allocate f.unit cls f.seq .active = none) :
    registerService f s c = (s.raiseAlarm .tableFull f.unit, fun _ => .refused .full) := by
  simp only [registerService, absent, registerNew, hcls, Option.getD_some, given]
  rfl

/-- A REGISTER neither equal nor newer (R53). -/
theorem registerService_stale {s : State} {c : Fin 4} {f : RegisterFields} {i : Index} {r : Record} (hfind : s.find f.unit = some (i, r))
    (counted : r.state = .active ∨ r.state = .transit) (stale : relation r.seq f.seq f.fresh = .notNewer) :
    registerService f s c = (s, fun _ => .stale r.seq) := by
  rcases counted with hstate | hstate
  · simp only [registerService, hfind, hstate, registerActive, stale]
  · simp only [registerService, hfind, hstate, registerTransit, stale]

/-- Settles O25: the eviction is a release whose index is filled, and the two refusals change nothing but an alarm. -/
theorem registerWithoutRoomEvictsOrIsRefused : Obligations.RegisterWithoutRoomEvictsOrIsRefused := by
  intro c f cls s pass sized unit seq hcls
  refine ⟨fun absent noRoom => ⟨fun before after i r hage hr lost table oldest => ?_, fun hs noneLost => ?_⟩,
    fun i r hs hfind counted old stored far => ?_⟩
  · have hrc : (s.chattered c).record? i = some r := hr
    obtain ⟨hage', hclaims, hneighbours, hrecords⟩ := State.release_leaves hrc
    have hrest : s.visitors.age.filter (fun j => j != i) = before ++ after := by
      have hnodup := table.partition.ageNodup
      rw [hage] at hnodup ⊢
      exact filter_ne_of_nodup hnodup
    have hoff : i ∉ s.visitors.age.filter (fun j => j != i) := fun hi => by simpa using (List.mem_filter.mp hi).2
    have hconfig : ConfigKept s ((s.chattered c).release i) := (ConfigKept.chattered s c).trans (.release hrc)
    have hscored : ((s.chattered c).release i).scored f.attenuation f.grade = s.scored f.attenuation f.grade := by
      rw [State.scored, State.scored, State.selected, State.selected, hconfig.scoring, hconfig.profiles]
    have given := State.allocate_of_oldestLost (s := s.chattered c) (VisitorTable.freeHead_eq_none noRoom)
      (State.oldestLost_eq_some (s := s.chattered c) hage hrc lost oldest) f.unit f.seq .active
    rw [State.detach_eq_release hrc] at given
    generalize ha : (s.chattered c).release i = a at given hage' hclaims hrecords hneighbours hconfig hscored
    have hunowed : ∀ x ∈ a.claims, x.index ≠ i := fun x hx hxi => by
      rw [hclaims] at hx
      simpa [hxi] using (List.mem_filter.mp hx).2
    obtain ⟨t, q, hexec, hq, hkept, hup⟩ := register_new (a := a) (table := { a.visitors with free := s.visitors.free }) pass sized
      unit seq hcls absent given hscored (fun hi => hoff (hage' ▸ hi)) hunowed rfl
    have hconfigured := hup.toEndOfStepFrame.config
    have hfields : q.unit = f.unit ∧ q.cls = cls ∧ q.seq = f.seq ∧ q.serving = some c
        ∧ q.home = some (16 * (s.scored f.attenuation f.grade).sample) ∧ q.neighbours = []
        ∧ q.inCall = false ∧ q.stateAge = 0 ∧ q.stamp = s.sweep.parity := by
      rw [hkept]
      exact ⟨rfl, rfl, rfl, rfl, rfl, rfl, rfl, rfl, rfl⟩
    obtain ⟨hqunit, hqcls, hqseq, hqserving, hqhome, hqneighbours, hqcall, hqage, hqstamp⟩ := hfields
    refine ⟨t, q, hexec, hq, hqunit, hqcls, hqseq, hqserving, hqhome, hqneighbours, hqcall, hqage, hqstamp, ?_, ?_, fun j x hj hx => ?_,
      ?_, ?_, ?_⟩
    · rw [hup.free, State.confirm_visitors]
      rfl
    · rw [hup.age, State.confirm_visitors]
      exact congrArg (· ++ [i]) (hage'.trans hrest)
    · refine hup.record j x ?_
      rw [State.record?_confirm]
      refine (VisitorTable.records_occupy _ i _ j).trans ?_
      rw [if_neg hj]
      exact (hrecords j hj).trans hx
    · rw [hup.neighbours, State.confirm_neighbours]
      exact (a.neighbours_countTalkgroups f.unit _).trans hneighbours
    · refine ConfigKept.trans (ConfigKept.trans ?_ (ConfigKept.confirm _ _ _)) hconfigured
      refine hconfig.trans (.filled a f.unit (requestedList f.talkgroups) ?_ _)
      rfl
    · rw [hclaims] at hup
      exact hup
  · have given := State.allocate_eq_none (s := s.chattered c) (VisitorTable.freeHead_eq_none noRoom)
      (State.oldestLost_eq_none (s := s.chattered c) noneLost) f.unit f.seq .active
    rw [exec_register sized unit seq hcls]
    exact request_reply_counted (own := fun s => onChannel (.channel c) s (registerService f s)) pass rfl
      (registerService_full (s := s.chattered c) absent hcls given) ((hs.chattered c).settle_raiseAlarm _ _)
  · have hstale : relation r.seq f.seq f.fresh = .notNewer := by
      rw [relation_eq, old, if_neg Bool.false_ne_true, if_neg (by omega), if_neg (by omega)]
    rw [exec_register sized unit seq hcls]
    exact request_reply_counted (own := fun s => onChannel (.channel c) s (registerService f s)) pass rfl
      (registerService_stale (s := s.chattered c) hfind counted hstale) ((hs.chattered c).settle_eq.trans (hs.chattered c).lines.symm)

end Sys2Proof.Machine
end

section
/-! PROOF. REGISTER of a radio that a record holds (03 R48 to R56, 05 R103, R110). -/

namespace Sys2Proof.Machine

/-! ## A superseded transaction (R110) -/

/-- A TRANSIT record is that of the transaction in its slot (R91). -/
theorem SlotsExact.transaction_of {s : State} (h : SlotsExact s) {i : Index} {r : Record} (hr : s.record? i = some r)
    (state : r.state = .transit) :
    ∃ (k : Fin 8) (x : Transaction), r.slot = some k ∧ s.handover.slots[k].transaction = some x ∧ x.record = i := by
  obtain ⟨k, hk⟩ := Option.isSome_iff_exists.mp ((h.transit i r hr).mpr state)
  have hnamed := (h.named k i).mpr (by rw [hr, Option.any_some, hk]; exact beq_self_eq_true _)
  obtain ⟨x, hx, hxi⟩ := Option.map_eq_some_iff.mp hnamed
  exact ⟨k, x, hk, hx, hxi⟩

theorem SlotsExact.record_eq {s : State} (h : SlotsExact s) {i : Index} {r : Record} {k : Fin 8} {x : Transaction}
    (hr : s.record? i = some r) (hk : r.slot = some k) (hx : s.handover.slots[k].transaction = some x) : x.record = i := by
  have hnamed := (h.named k i).mpr (by rw [hr, Option.any_some, hk]; exact beq_self_eq_true _)
  rw [hx] at hnamed
  exact Option.some.inj hnamed

/-- What a REGISTER finds before it writes its record: the table's order, the claims, the class queues and the scoring as they were. -/
structure AdmissionBase (s base : State) (i : Index) (r : Record) : Prop where
  record : base.record? i = some r
  age : base.visitors.age = s.visitors.age
  claims : base.claims = s.claims
  queues : base.handover.queues = s.handover.queues
  scored : ∀ a g, base.scored a g = s.scored a g

/-- An entry behind a failure that sets no cooldown (R108). -/
theorem NeighbourEntry.afterFailure_none (e : NeighbourEntry) (target : Nat) :
    e.afterFailure target none = { e with better := 0, late := false } := by
  rw [NeighbourEntry.afterFailure, Option.getD_none, ite_self]

/-- A TRANSIT record whose transaction is superseded (R108, R110). -/
def Record.superseded (r : Record) : Record :=
  { r with state := .active, slot := none, neighbours := r.neighbours.map (fun e => { e with better := 0, late := false }) }

theorem Record.afterFailure_none (r : Record) (target : Nat) : r.afterFailure target none = r.superseded := by
  simp only [Record.afterFailure, Record.superseded, NeighbourEntry.afterFailure_none]

theorem AdmissionBase.superseded {s : State} (slots : SlotsExact s) {i : Index} {r : Record} (hr : s.record? i = some r)
    (state : r.state = .transit) : s.supersede r = (s.superseded r, some s.fateOfOffer) ∧
      AdmissionBase s (s.superseded r) i r.superseded := by
  obtain ⟨k, x, hk, hx, rfl⟩ := slots.transaction_of hr state
  refine ⟨State.supersede_eq hk hx hr, ?_⟩
  have hfailed : s.superseded r =
      (s.offered (.cancel r.unit s.protection.site x.target k s.handover.slots[k].generation)).failed k x none := by
    rw [State.superseded, hk]
    dsimp only
    rw [hx]
  have hoffered : (s.offered (.cancel r.unit s.protection.site x.target k s.handover.slots[k].generation)).record? x.record = some r := by
    rw [State.offered_eq]
    exact hr
  refine ⟨?_, ?_, ?_, ?_, fun a g => ?_⟩
  · rw [hfailed, State.record?_failed_own hoffered, Record.afterFailure_none]
  · rw [hfailed, State.offered_eq]; rfl
  · rw [hfailed, State.offered_eq]; rfl
  · rw [hfailed, State.offered_eq]; rfl
  · rw [hfailed, State.offered_eq]; rfl

/-! ## The record as its REGISTER admits it (R51 to R56) -/

/-- The record as the writing of a done REGISTER finds it, by its state and the relation of the sequences. -/
def Record.admitted (r : Record) (rel : Relation) (seq : Nat) : Record :=
  { r with
    state := if r.state = .transit ∧ rel = .equal then .transit else .active
    slot := if r.state = .transit ∧ rel = .newer then none else r.slot
    neighbours := if r.state = .transit ∧ rel = .newer then r.neighbours.map (fun x => { x with better := 0, late := false })
      else r.neighbours
    seq := if (r.state = .active ∨ r.state = .transit) ∧ rel = .equal then r.seq else seq
    history := if r.state = .lost then Vector.replicate 8 true else r.history
    origin := if r.state = .expected then none else r.origin }

/-- What a done REGISTER of a held radio reports as its kind of registration. -/
def Record.registration (r : Record) (rel : Relation) : Registration :=
  match r.state with
  | .expected => .arrived
  | .lost => .reactivated
  | .active => if rel = .equal then .refreshed else .renewed
  | .transit => if rel = .equal then .refreshed else .superseded

theorem Record.admitted_eq_self {r : Record} (h : r.state = .active ∨ r.state = .transit) (seq : Nat) : r.admitted .equal seq = r := by
  cases r
  rcases h with h | h
  · simp only at h
    simp [Record.admitted, h]
  · simp only at h
    simp [Record.admitted, h]

/-- What a REGISTER that is not refused STALE accepts: the record admitted, with its counted list, CLAIM, kind and CANCEL. -/
theorem registerService_held {s base : State} {c : Fin 4} {f : RegisterFields} {i : Index} {r : Record} {rel : Relation}
    (slots : SlotsExact s) (hfind : s.find f.unit = some (i, r)) (hrel : rel = relation r.seq f.seq f.fresh)
    (accepted : r.state = .expected ∨ r.state = .lost ∨ rel ≠ .notNewer)
    (hbase : base = if r.state = .transit ∧ rel = .newer then (s.chattered c).superseded r else s.chattered c) :
    registerService f (s.chattered c) c = (base.modifyRecord i (fun _ => r.admitted rel f.seq)).accept c f i
      (if r.state = .active ∨ r.state = .transit then r.talkgroups else []) (decide (r.state = .expected ∨ rel = .newer))
      (r.registration rel) (if r.state = .transit ∧ rel = .newer then some s.fateOfOffer else none) := by
  obtain ⟨hr, -⟩ := State.find_eq_some hfind
  have hrc : (s.chattered c).record? i = some r := hr
  have hwrite : ∀ {u : State} {q : Record} {g : Record → Record}, u.record? i = some q → g q = r.admitted rel f.seq →
      u.modifyRecord i g = u.modifyRecord i (fun _ => r.admitted rel f.seq) := fun {u q g} hq hg => by
    rw [State.modifyRecord_eq_const hq, hg]
  simp only [registerService, State.find_chattered, hfind]
  cases hstate : r.state with
  | expected =>
    have hkept : base = s.chattered c := by rw [hbase, hstate]; exact if_neg (by simp)
    rw [hkept, ← hwrite hrc (g := fun r => { r with state := .active, seq := f.seq, origin := none })
      (by simp [Record.admitted, hstate])]
    simp [registerExpected, Record.registration, hstate]
  | lost =>
    have hkept : base = s.chattered c := by rw [hbase, hstate]; exact if_neg (by simp)
    rw [hkept, ← hwrite hrc (g := fun r => { r with state := .active, history := allHeard, seq := f.seq })
      (by simp [Record.admitted, hstate, allHeard])]
    simp [registerLost, Record.registration, hstate, ← hrel, beq_eq_decide]
  | active =>
    have hkept : base = s.chattered c := by rw [hbase, hstate]; exact if_neg (by simp)
    rw [hkept]
    simp only [registerActive, ← hrel]
    cases rel with
    | equal =>
      rw [Record.admitted_eq_self (.inl hstate), State.modifyRecord_eq_self hrc rfl]
      simp [Record.registration, hstate]
    | newer =>
      rw [← hwrite hrc (g := fun r => { r with seq := f.seq }) (by simp [Record.admitted, hstate])]
      simp [Record.registration, hstate, State.storeSeq]
    | notNewer => simp [hstate] at accepted
  | transit =>
    simp only [registerTransit, ← hrel]
    cases rel with
    | equal =>
      have hkept : base = s.chattered c := by rw [hbase]; exact if_neg (by simp)
      rw [hkept, Record.admitted_eq_self (.inr hstate), State.modifyRecord_eq_self hrc rfl]
      simp [Record.registration, hstate]
    | newer =>
      have hended : base = (s.chattered c).superseded r := by rw [hbase]; exact if_pos ⟨hstate, rfl⟩
      obtain ⟨hsupersede, hfound⟩ := AdmissionBase.superseded (s := s.chattered c) (slots.same (fun _ => rfl) fun _ => rfl) hrc hstate
      rw [hsupersede, hended, ← hwrite hfound.record (g := fun r => { r with seq := f.seq })
        (by simp [Record.admitted, Record.superseded, hstate])]
      simp [Record.registration, hstate, State.storeSeq]
      rfl
    | notNewer => simp [hstate] at accepted

/-! ## The writing of the record (R48, R49) -/

theorem State.recounted_with (s : State) (v : VisitorTable) (h : HandoverUnit) (unit : Nat) (old requested : List Nat) :
    ({ s with visitors := v, handover := h } : State).recounted unit old requested =
      ({ (s.recounted unit old requested).1 with visitors := v, handover := h }, (s.recounted unit old requested).2) :=
  State.countTalkgroups_with (s.uncountTalkgroups (old.filter fun tg => !requested.contains tg)) v h unit _

/-- What a done REGISTER makes of the record it finds admitted. -/
theorem AdmissionBase.written {s base b : State} {i : Index} {q r v : Record} (h : AdmissionBase s base i q) {c : Fin 4}
    {f : RegisterFields}
    {cls : RadioClass} (hb : b = base.modifyRecord i (fun _ => r)) (hcls : RadioClass.ofCode f.cls = some cls) (old : List Nat)
    (claim : Bool)
    (hv : v = r.registered c cls ((s.scored f.attenuation f.grade).into r.home).1 ((requestedList f.talkgroups).filter (fun tg =>
      old.contains tg || (base.recounted f.unit old (requestedList f.talkgroups)).2.contains tg)) claim) :
    b.written c f i old claim = { (base.recounted f.unit old (requestedList f.talkgroups)).1 with
      visitors := { base.visitors with
        records := base.visitors.records.set i (some v), age := s.visitors.age.filter (fun j => j != i) ++ [i] }
      claims := owedClaims s.claims i f.fresh claim
      handover := { base.handover with queues := Vector.ofFn (fun d : Fin 4 =>
        if r.queued = true ∧ r.cls ≠ cls then
          s.handover.queues[d].filter (fun j => j != i) ++ (if d = cls.index then [i] else [])
        else s.handover.queues[d]) } } := by
  have hset : b = { base with visitors := { base.visitors with records := base.visitors.records.set i (some r) } } := by
    rw [hb, State.modifyRecord_eq_set h.record]
  have held : b.record? i = some r := by
    rw [hset]
    exact Vector.getElem_set_self ..
  have hscored : b.scored f.attenuation f.grade = s.scored f.attenuation f.grade := by
    rw [← h.scored, hset]
    rfl
  have hcount : b.recounted f.unit old (requestedList f.talkgroups) =
      ({ (base.recounted f.unit old (requestedList f.talkgroups)).1 with visitors := b.visitors, handover := base.handover },
        (base.recounted f.unit old (requestedList f.talkgroups)).2) := by
    rw [hset]
    exact base.recounted_with _ base.handover f.unit old _
  rw [State.written_eq held c f old claim (cls := cls) (by rw [hcls, Option.getD_some])
    (home := ((s.scored f.attenuation f.grade).into r.home).1) (by rw [hscored]) rfl, hcount]
  dsimp only
  rw [← hv, hset]
  dsimp only
  rw [Vector.set_set_same, h.age, h.claims, ← h.queues]
  rfl

/-! ## The MOVE attempt of a refreshed HELD record (R103) -/

theorem State.refreshHeld_of_not_held {s : State} {i : Index} {r : Record} (h : s.record? i = some r)
    (free : ∀ k : Fin 8, r.slot = some k → s.phase? k ≠ some (.held .call) ∧ s.phase? k ≠ some (.held .room)) : s.refreshHeld i = s := by
  have hnone : s.heldSlot? i = none := by
    rw [State.heldSlot?, h, Option.bind_some, Option.bind_eq_none_iff]
    intro k hk
    rw [Option.bind_eq_none_iff]
    intro x hx
    obtain ⟨hcall, hroom⟩ := free k hk
    rw [State.phase?, hx, Option.map_some] at hcall hroom
    split
    next reason hphase =>
      cases reason with
      | call => exact absurd (congrArg some hphase) hcall
      | room => exact absurd (congrArg some hphase) hroom
    next => rfl
    next => rfl
  rw [State.refreshHeld, hnone]

theorem State.refreshHeld_of_held {s : State} {i : Index} {r : Record} {k : Fin 8} {x : Transaction} (h : s.record? i = some r)
    (slot : r.slot = some k) (hx : s.handover.slots[k].transaction = some x) (phase : x.phase = .held .call ∨ x.phase = .held .room) :
    s.refreshHeld i = (s.moveAttempt k).1 := by
  have hheld : s.heldSlot? i = some k := by
    rw [State.heldSlot?, h, Option.bind_some, slot, Option.bind_some, hx, Option.bind_some]
    rcases phase with hphase | hphase
    · rw [hphase]
    · rw [hphase]
  rw [State.refreshHeld, hheld]

/-- A MOVE attempt on a port that is not CLOSED changes no record (R99). -/
theorem State.record?_attempted_of_ready {s : State} {d : Fin 4} (ready : s.ports.channels[d].state ≠ .closed) (k : Fin 8) (x : Transaction)
    (r : Record) (i : Index) : (s.attempted k x r d).record? i = s.record? i := by
  unfold State.attempted
  dsimp only
  rw [if_neg ready]
  split
  · rfl
  · split <;> rfl

theorem AdmissionBase.of_found {s base : State} {c : Fin 4} {i : Index} {r : Record} {rel : Relation} (slots : SlotsExact s)
    (hr : s.record? i = some r)
    (hbase : base = if r.state = .transit ∧ rel = .newer then (s.chattered c).superseded r else s.chattered c) :
    ∃ q, AdmissionBase s base i q := by
  by_cases hnewer : r.state = .transit ∧ rel = .newer
  · rw [if_pos hnewer] at hbase
    obtain ⟨-, h⟩ := AdmissionBase.superseded (s := s.chattered c) (slots.same (fun _ => rfl) fun _ => rfl) hr hnewer.1
    rw [hbase]
    exact ⟨_, h.record, h.age, h.claims, h.queues, h.scored⟩
  · rw [if_neg hnewer] at hbase
    rw [hbase]
    exact ⟨r, hr, rfl, rfl, rfl, fun _ _ => rfl⟩

/-- A REGISTER that passes its checks came through a channel port that is not CLOSED (R168). -/
theorem Passes.channel_not_closed {s : State} {c : Fin 4} (h : Passes s .register (.channel c)) : s.ports.channels[c].state ≠ .closed :=
  fun hclosed => by
    rcases h.closed hclosed with hkind | hkind
    · cases hkind
    · cases hkind

/-- Settles O26: the record is admitted by its state and the relation, then written, and a refreshed HELD one makes its attempt. -/
theorem registerOfHeldRadioWritesRecord : Obligations.RegisterOfHeldRadioWritesRecord := by
  intro c f cls i r v s base e rel old requested counted claim home slots pass sized unit seq hcls hfind hrel accepted hreq hold hhome
    hclaim
    hbase hcounted hv he
  obtain ⟨hr, -⟩ := State.find_eq_some hfind
  have hserved := registerService_held (c := c) slots hfind hrel accepted hbase
  rw [← hold, ← hclaim] at hserved
  obtain ⟨q₀, hadmission⟩ := AdmissionBase.of_found slots hr hbase
  have hwritten : (base.modifyRecord i (fun _ => r.admitted rel f.seq)).written c f i old claim = e := by
    subst hreq hhome
    rw [hadmission.written (v := v) rfl hcls old claim (by rw [hv, hcounted]; rfl), he, hcounted]
    rfl
  have hheld : (base.modifyRecord i (fun _ => r.admitted rel f.seq)).record? i = some (r.admitted rel f.seq) := by
    rw [State.record?_modifyRecord, if_pos rfl, hadmission.record]
    rfl
  have hv' : e.record? i = some v := by
    rw [he]
    exact Vector.getElem_set_self ..
  have hhomes : (s.scored f.attenuation f.grade).into (r.admitted rel f.seq).home = home := hhome.symm
  have hreport : ∀ q : Record, acceptedReply f (s.scored f.attenuation f.grade) i (r.admitted rel f.seq) v q (r.registration rel)
      (if r.state = .transit ∧ rel = .newer then some s.fateOfOffer else none) =
      .done ((s.scored f.attenuation f.grade).adjusted || listReduced f.talkgroups) (some .applied) (.registered
        { registration := r.registration rel, index := i, seq := v.seq, grant := v.talkgroups, claimPending := q.claimPending
          sample := (s.scored f.attenuation f.grade).sample, weight := home.2, home := home.1
          cancel := if r.state = .transit ∧ rel = .newer then some s.fateOfOffer else none }) := fun q => by
    rw [acceptedReply, hhomes, hv]
    rfl
  have hkept : ¬(r.state = .transit ∧ rel = .newer) → v.slot = r.slot ∧ e.handover.slots = s.handover.slots
      ∧ e.ports.channels[c].state = s.ports.channels[c].state := fun hnewer => by
    rw [if_neg hnewer] at hbase
    refine ⟨by rw [hv]; exact if_neg hnewer, by rw [he, hbase]; rfl, ?_⟩
    have hports : e.ports.channels = (s.chattered c).ports.channels := by
      rw [he, hcounted, State.countTalkgroups_eq, hbase]
      rfl
    rw [hports]
    exact (congrArg ChannelPort.state (State.channels_modifyChannel s c c _)).trans (by rw [if_pos rfl])
  have htransit : ∀ k : Fin 8, r.slot = some k → r.state = .transit := fun k hk => (slots.transit i r hr).mp (by rw [hk]; rfl)
  by_cases hmove : ∃ (k : Fin 8) (x : Transaction), r.slot = some k ∧ rel = .equal ∧ s.handover.slots[k].transaction = some x
      ∧ (x.phase = .held .call ∨ x.phase = .held .room)
  · obtain ⟨k, x, hk, hequal, hx, hphase⟩ := hmove
    obtain ⟨hslot, hslots, hport⟩ := hkept fun hnewer => by rw [hequal] at hnewer; cases hnewer.2
    have hex : e.handover.slots[k].transaction = some x := by rw [hslots]; exact hx
    have hown : x.record = i := slots.record_eq hr hk hx
    have hready : e.ports.channels[c].state ≠ .closed := by rw [hport]; exact pass.channel_not_closed
    have hattempt : ((base.modifyRecord i (fun _ => r.admitted rel f.seq)).written c f i old claim).refreshHeld i =
      e.attempted k x v c := by
      rw [hwritten, State.refreshHeld_of_held hv' (hslot.trans hk) hex hphase]
      exact State.moveAttempt_eq hex (by rw [hown]; exact hv') (by rw [hv])
    obtain ⟨t, q, hexec, hq, hqv, hup⟩ := register_accepted pass sized unit seq hcls hserved hheld (hadmission.scored _ _) hattempt
      ((State.record?_attempted_of_ready hready k x v i).trans hv')
    rw [hreport] at hup
    refine ⟨t, q, _, hexec, hq, hqv, rfl, fun free => ?_, fun k' x' hk' _ hx' _ => ?_⟩
    · obtain ⟨hcall, hroom⟩ := free k hk hequal
      rw [State.phase?, hx] at hcall hroom
      rcases hphase with hphase | hphase
      · exact absurd (congrArg some hphase) hcall
      · exact absurd (congrArg some hphase) hroom
    · rw [hk] at hk'
      cases hk'
      rw [hx] at hx'
      cases hx'
      exact hup
  · have hstill : ((base.modifyRecord i (fun _ => r.admitted rel f.seq)).written c f i old claim).refreshHeld i = e := by
      rw [hwritten]
      refine State.refreshHeld_of_not_held hv' fun k hk => ?_
      by_cases hnewer : r.state = .transit ∧ rel = .newer
      · have hfreed : v.slot = none := by rw [hv]; exact if_pos hnewer
        rw [hfreed] at hk
        cases hk
      · obtain ⟨hslot, hslots, -⟩ := hkept hnewer
        have hrk : r.slot = some k := hslot.symm.trans hk
        have hequal : rel = .equal := by
          have hstate := htransit k hrk
          cases rel with
          | equal => rfl
          | newer => exact absurd ⟨hstate, rfl⟩ hnewer
          | notNewer => simp [hstate] at accepted
        have hphase : ∀ h : Phase, h = .held .call ∨ h = .held .room → e.phase? k ≠ some h := fun h hh hp => by
          rw [State.phase?, hslots, Option.map_eq_some_iff] at hp
          obtain ⟨x, hx, rfl⟩ := hp
          exact hmove ⟨k, x, hrk, hequal, hx, hh⟩
        exact ⟨hphase _ (.inl rfl), hphase _ (.inr rfl)⟩
    obtain ⟨t, q, hexec, hq, hqv, hup⟩ := register_accepted pass sized unit seq hcls hserved hheld (hadmission.scored _ _) hstill hv'
    rw [hreport] at hup
    exact ⟨t, q, _, hexec, hq, hqv, rfl, fun _ => hup, fun k x hk hequal hx hphase => absurd ⟨k, x, hk, hequal, hx, hphase⟩ hmove⟩

end Sys2Proof.Machine
end
